-- ==== Sys2Proof/Word.lean ====
section
/-! DEFINITION. The words of the hardware (00_scope.md R6): a byte of a packet, a 32-bit target register. Every
value is unsigned. -/

namespace Sys2Proof

/-- A byte of a request or of a response. -/
abbrev Byte := BitVec 8

/-- A 32-bit target register's value: the operand of a transfer, the value read (20_memory.md R52). -/
abbrev Word := BitVec 32

end Sys2Proof
end

