-- ==== Sys2Proof/Config.lean ====
section
/-! DEFINITION. The consumed capabilities (60_exceptions.md R330, R331) as pin events, the implementation
parameters (00_scope.md R5 and its table, 92_eei_decisions.md "Open parameters"), and the free values, which have
no body: no proof can see what they are. -/

namespace Sys2Proof

/-- The direction of the data line, the argument of `set_data_direction` (10_state.md R16). -/
inductive LineDir where
  /-- The engine has released the line; the target may drive it. -/
  | input
  /-- The engine drives the line. -/
  | output
deriving DecidableEq, Repr

/-- One call of a consumed capability, with its argument or its result (60_exceptions.md R330, R331). -/
inductive PinEvent where
  /-- `set_clock(level)` -/
  | setClock (level : Bool)
  /-- `set_data(level)` -/
  | setData (level : Bool)
  /-- `get_data() -> level` -/
  | getData (level : Bool)
  /-- `set_data_direction(d)` -/
  | setDirection (d : LineDir)
  /-- `set_reset(level)`: kept in the type, called by nothing (40_pin_primitive.md R117). -/
  | setReset (level : Bool)
  /-- `delay_microseconds(HALF_PERIOD_US)`: the one argument the delay is ever called with (R331). -/
  | delay
deriving DecidableEq, Repr

namespace Config

/-- `PACKET_SIZE`: "Maximum single packet size: 64 bytes" (00_scope.md R5). -/
def packetSize : Nat := 64

/-- `RESP_CAP`, the capacity of the response buffer (00_scope.md R5 table, the spec's decision D24). -/
def respCap : Nat := 64

/-- `ERR_SENTINEL`: "an error sentinel (`0xFF`)" (00_scope.md R5). -/
def errSentinel : Byte := 0xFF

/-- `TRN_CYCLES`: turnaround cycles at each hand-over of the line; 0 is the document's literal algorithm
(41_swd_transfer.md R140, the spec's decision D6). DESIGN CHOICE of the spec (log 1). The engine's definitions take
the number as an argument; only the meanings of instructions are bound to this one. -/
def trnCycles : Nat := 0

/-- `RESET_IDLE_CYCLES` (10_state.md R35): OPEN in the spec. PRESUMED 0, the family's value (log 3). -/
def resetIdleCycles : BitVec 8 := 0

/-- `RESET_WAIT_RETRY` (10_state.md R35): OPEN in the spec. PRESUMED 100, the family's value (log 3). -/
def resetWaitRetry : BitVec 16 := 100

/-- `RESET_MATCH_RETRY` (10_state.md R35): OPEN in the spec. PRESUMED 0, the family's value (log 3). -/
def resetMatchRetry : BitVec 16 := 0

/-- `HALF_PERIOD_US` (70_reset_and_hazards.md R361): a free value, no rule's result depends on it (log 8). -/
opaque halfPeriodUs : Nat

/-- A value of `INFO_TABLE`: at most 62 bytes, so that `2 + len <= 64` (43_dap_config_info.md R212). -/
abbrev InfoValue := { v : List Byte // v.length ≤ 62 }

/-- `INFO_TABLE` (43_dap_config_info.md R212): a partial map, left free (log 7). -/
opaque infoTable : Byte → Option InfoValue

/-- The level the environment answers to a `get_data()` call, given the whole history of pin events so far, newest
first (60_exceptions.md R334): a free value (log 6). -/
opaque targetBit : List PinEvent → Bool

end Config

end Sys2Proof
end

