-- ==== Sys2Proof/Syntax.lean ====
section
/-! DEFINITION. The instructions: one constructor for each row of spec/opcode_table.json. A DAP command carries the
operand bytes of its packet (30_encoding.md R93); a request header opens one attempt of the SWD transfer engine
(R70, R74); an acknowledgement is what the target answers to a header (R75 to R77). -/

namespace Sys2Proof

/-- Debug Port or Access Port (30_encoding.md R72). -/
inductive Port where
  | dp
  | ap
deriving DecidableEq, Repr

/-- Direction of a register access, named from the host's side (30_encoding.md R72). -/
inductive Direction where
  | write
  | read
deriving DecidableEq, Repr

/-- APnDP: 1 for the Access Port, 0 for the Debug Port (30_encoding.md R72). -/
def Port.bit : Port → Bool
  | .dp => false
  | .ap => true

/-- RnW: 1 for a Read, 0 for a Write (30_encoding.md R72). -/
def Direction.bit : Direction → Bool
  | .write => false
  | .read => true

def Port.ofBit (b : Bool) : Port := if b then .ap else .dp

def Direction.ofBit (b : Bool) : Direction := if b then .read else .write

inductive Instr where
  /-- INFO, opcode 0x00 (43_dap_config_info.md R210) -/
  | info (id : Byte)
  /-- HOSTSTATUS, opcode 0x01 (R214) -/
  | hostStatus (type status : Byte)
  /-- CONNECT, opcode 0x02 (R216) -/
  | connect (port : Byte)
  /-- DISCONNECT, opcode 0x03 (R218) -/
  | disconnect
  /-- XFERCFG, opcode 0x04: TransferConfigure (R220, R222) -/
  | xferCfg (idleCycles : BitVec 8) (waitRetry matchRetry : BitVec 16)
  /-- XFER, opcode 0x05: Transfer (44_dap_transfer.md R240, R246) -/
  | xfer (rq : Byte) (operand : Word)
  /-- XFERBLK, opcode 0x06: TransferBlock (R250, R256). `data` is what the packet holds of the write data the format
  defines, at most `4 * count` bytes from offset 4; nothing for a read (R93, R95). -/
  | xferBlk (rq : Byte) (count : BitVec 16) (data : List Byte)
  /-- XFERABORT, opcode 0x07: TransferAbort (R224) -/
  | xferAbort
  /-- SWJSEQ, opcode 0x12: SWJ_Sequence (R260, R261). `data` is what the packet holds of the `ceil(N / 8)` data bytes
  the format defines, from offset 2 (R93, R95). -/
  | swjSeq (n : Byte) (data : List Byte)
  /-- WRITEABORT, opcode 0x08 (45_dap_unimplemented.md R281) -/
  | writeAbort
  /-- DELAY, opcode 0x09 (R282) -/
  | delay
  /-- RESETTARGET, opcode 0x0A (R284) -/
  | resetTarget
  /-- SWJPINS, opcode 0x10 (R285) -/
  | swjPins
  /-- SWJCLOCK, opcode 0x11 (R286) -/
  | swjClock
  /-- SWDCFG, opcode 0x13: SWD_Configure (R287) -/
  | swdCfg
  /-- JTAGSEQ, opcode 0x14 (R288) -/
  | jtagSeq
  /-- JTAGCFG, opcode 0x15 (R289) -/
  | jtagCfg
  /-- JTAGIDCODE, opcode 0x16 (R290) -/
  | jtagIdcode
  /-- UNKNOWN: an opcode byte outside the table, for the default handler (30_encoding.md R92, 42_dap_dispatch.md R185) -/
  | unknown (op : Byte)
  /-- SWDHDR: the request header in general, for a port, a direction and a register index (30_encoding.md R70) -/
  | swdHdr (port : Port) (direction : Direction) (index : BitVec 2)
  /-- SWDHDR_DP_W_0: the header 0x81 (30_encoding.md R74) -/
  | swdHdrDpW0
  /-- SWDHDR_AP_W_0: the header 0xA3 (30_encoding.md R74) -/
  | swdHdrApW0
  /-- SWDHDR_DP_R_0: the header 0xA5 (30_encoding.md R74) -/
  | swdHdrDpR0
  /-- SWDHDR_AP_R_0: the header 0x87 (30_encoding.md R74) -/
  | swdHdrApR0
  /-- SWDHDR_DP_W_1: the header 0xA9 (30_encoding.md R74) -/
  | swdHdrDpW1
  /-- SWDHDR_AP_W_1: the header 0x8B (30_encoding.md R74) -/
  | swdHdrApW1
  /-- SWDHDR_DP_R_1: the header 0x8D (30_encoding.md R74) -/
  | swdHdrDpR1
  /-- SWDHDR_AP_R_1: the header 0xAF (30_encoding.md R74) -/
  | swdHdrApR1
  /-- SWDHDR_DP_W_2: the header 0xB1 (30_encoding.md R74) -/
  | swdHdrDpW2
  /-- SWDHDR_AP_W_2: the header 0x93 (30_encoding.md R74) -/
  | swdHdrApW2
  /-- SWDHDR_DP_R_2: the header 0x95 (30_encoding.md R74) -/
  | swdHdrDpR2
  /-- SWDHDR_AP_R_2: the header 0xB7 (30_encoding.md R74) -/
  | swdHdrApR2
  /-- SWDHDR_DP_W_3: the header 0x99 (30_encoding.md R74) -/
  | swdHdrDpW3
  /-- SWDHDR_AP_W_3: the header 0xBB (30_encoding.md R74) -/
  | swdHdrApW3
  /-- SWDHDR_DP_R_3: the header 0xBD (30_encoding.md R74) -/
  | swdHdrDpR3
  /-- SWDHDR_AP_R_3: the header 0x9F (30_encoding.md R74) -/
  | swdHdrApR3
  /-- ACK_OK: the acknowledgement 1 (30_encoding.md R76) -/
  | ackOk
  /-- ACK_WAIT: the acknowledgement 2 (R76) -/
  | ackWait
  /-- ACK_FAULT: the acknowledgement 4 (R76) -/
  | ackFault
  /-- ACK_INVALID_0: the sampled value 0, none or several flags (R77) -/
  | ackInvalid0
  /-- ACK_INVALID_3: the sampled value 3, none or several flags (R77) -/
  | ackInvalid3
  /-- ACK_INVALID_5: the sampled value 5, none or several flags (R77) -/
  | ackInvalid5
  /-- ACK_INVALID_6: the sampled value 6, none or several flags (R77) -/
  | ackInvalid6
  /-- ACK_INVALID_7: the sampled value 7, none or several flags (R77) -/
  | ackInvalid7
deriving DecidableEq, Repr

/-- The three word formats of the table. Which one a word has is given by where it stands and not by its bits:
a request packet from the host, a request header at the engine, an acknowledgement from the target (log 12). -/
inductive WordPort where
  | packet
  | header
  | ack
deriving DecidableEq, Repr

/-- Where the word of an instruction stands. -/
def Instr.wordPort : Instr → WordPort
  | .swdHdr _ _ _ => .header
  | .swdHdrDpW0 => .header
  | .swdHdrApW0 => .header
  | .swdHdrDpR0 => .header
  | .swdHdrApR0 => .header
  | .swdHdrDpW1 => .header
  | .swdHdrApW1 => .header
  | .swdHdrDpR1 => .header
  | .swdHdrApR1 => .header
  | .swdHdrDpW2 => .header
  | .swdHdrApW2 => .header
  | .swdHdrDpR2 => .header
  | .swdHdrApR2 => .header
  | .swdHdrDpW3 => .header
  | .swdHdrApW3 => .header
  | .swdHdrDpR3 => .header
  | .swdHdrApR3 => .header
  | .ackOk => .ack
  | .ackWait => .ack
  | .ackFault => .ack
  | .ackInvalid0 => .ack
  | .ackInvalid3 => .ack
  | .ackInvalid5 => .ack
  | .ackInvalid6 => .ack
  | .ackInvalid7 => .ack
  | .info _ => .packet
  | .hostStatus _ _ => .packet
  | .connect _ => .packet
  | .disconnect => .packet
  | .xferCfg _ _ _ => .packet
  | .xfer _ _ => .packet
  | .xferBlk _ _ _ => .packet
  | .xferAbort => .packet
  | .swjSeq _ _ => .packet
  | .writeAbort => .packet
  | .delay => .packet
  | .resetTarget => .packet
  | .swjPins => .packet
  | .swjClock => .packet
  | .swdCfg => .packet
  | .jtagSeq => .packet
  | .jtagCfg => .packet
  | .jtagIdcode => .packet
  | .unknown _ => .packet

end Sys2Proof
end

