-- ==== Sys2Proof/WellFormed.lean ====
section
/-! DEFINITION. Which terms of `Instr` stand for a word: a DAP command is well formed when some request packet of at
most 64 bytes has it as its content. Truncated packets of the two variable-length commands are well formed too: the
hardware decodes them and its handlers reject them (44_dap_transfer.md R251, R260). Every operand of a fixed width
is in range by its type. -/

namespace Sys2Proof

/-- The most write data a TransferBlock packet can hold: nothing for a read (`rq[1] = 1`), `4 * count` bytes for a
write, and never more than the 60 bytes that follow offset 4 in a packet of 64 (30_encoding.md R86, R93). -/
def blockDataFits (rq : Byte) (count : BitVec 16) (length : Nat) : Bool :=
  if rq.getLsbD 1 then length == 0 else length ≤ 4 * count.toNat && length ≤ 60

/-- The most data a SWJ_Sequence packet can hold: `ceil(N / 8)` bytes, `N = 256` for `n = 0` (30_encoding.md R85). -/
def sequenceDataFits (n : Byte) (length : Nat) : Bool :=
  if n = 0 then length ≤ 32 else length ≤ (n.toNat + 7) / 8

/-- The 238 opcode bytes outside the table, "0x0B to 0x0F, 0x17 to 0xFF" (30_encoding.md R92). -/
def isUnassignedOpcode (op : Byte) : Bool :=
  (0x0B ≤ op.toNat && op.toNat ≤ 0x0F) || 0x17 ≤ op.toNat

def Instr.wf : Instr → Bool
  | .xferBlk rq count data => blockDataFits rq count data.length
  | .swjSeq n data => sequenceDataFits n data.length
  | .unknown op => isUnassignedOpcode op
  | .swdHdr _ _ _ => true
  | .swdHdrDpW0 => true
  | .swdHdrApW0 => true
  | .swdHdrDpR0 => true
  | .swdHdrApR0 => true
  | .swdHdrDpW1 => true
  | .swdHdrApW1 => true
  | .swdHdrDpR1 => true
  | .swdHdrApR1 => true
  | .swdHdrDpW2 => true
  | .swdHdrApW2 => true
  | .swdHdrDpR2 => true
  | .swdHdrApR2 => true
  | .swdHdrDpW3 => true
  | .swdHdrApW3 => true
  | .swdHdrDpR3 => true
  | .swdHdrApR3 => true
  | .ackOk => true
  | .ackWait => true
  | .ackFault => true
  | .ackInvalid0 => true
  | .ackInvalid3 => true
  | .ackInvalid5 => true
  | .ackInvalid6 => true
  | .ackInvalid7 => true
  | .info _ => true
  | .hostStatus _ _ => true
  | .connect _ => true
  | .disconnect => true
  | .xferCfg _ _ _ => true
  | .xfer _ _ => true
  | .xferAbort => true
  | .writeAbort => true
  | .delay => true
  | .resetTarget => true
  | .swjPins => true
  | .swjClock => true
  | .swdCfg => true
  | .jtagSeq => true
  | .jtagCfg => true
  | .jtagIdcode => true

end Sys2Proof
end

