-- ==== Sys2Proof/Decode.lean ====
section
/-! DEFINITION. Decoding, total on any bytes, and after it the encoder, both written from the spec's encoding
tables: byte order (20_memory.md R44 to R46), the opcode map and the packet formats (30_encoding.md R90 to R93), the
request header (R70 to R74), the acknowledgement (R75 to R77). The two table interfaces of the host stand at the end. -/

namespace Sys2Proof

/-! ### Byte order and bit fields -/

/-- A byte sequence read as one little-endian number: "the byte at the lowest offset is the least significant"
(20_memory.md R44). -/
def leNat : List Byte → Nat
  | [] => 0
  | b :: bs => b.toNat + 256 * leNat bs

/-- The low `n` bytes of a number, least significant first (20_memory.md R45). -/
def leBytes : Nat → Nat → List Byte
  | 0, _ => []
  | n + 1, v => BitVec.ofNat 8 v :: leBytes n (v / 256)

/-- `ReqRead(off, n)` on the bytes of a request: no value outside them (20_memory.md R41, R44). -/
def readField (bytes : List Byte) (off n : Nat) : Option Nat :=
  if off + n ≤ bytes.length then some (leNat ((bytes.drop off).take n)) else none

/-- Bit 0 of the transfer request byte (30_encoding.md R80). -/
def rqPort (rq : Byte) : Port := Port.ofBit (rq.getLsbD 0)

/-- Bit 1 of the transfer request byte (30_encoding.md R80). -/
def rqDirection (rq : Byte) : Direction := Direction.ofBit (rq.getLsbD 1)

/-- Bits 3:2 of the transfer request byte (30_encoding.md R80). -/
def rqIndex (rq : Byte) : BitVec 2 := rq.extractLsb' 2 2

/-- `rq[7:4] != 0`: the reserved bits (30_encoding.md R82). -/
def rqReserved (rq : Byte) : Bool := rq.extractLsb' 4 4 != 0

/-- The bit count of SWJ_Sequence: "`N = n` bits for `n` from 1 to 255 and `N = 256` bits for `n = 0`"
(30_encoding.md R85). -/
def swjBitCount (n : Byte) : Nat := if n = 0 then 256 else n.toNat

/-- The data bytes of SWJ_Sequence, `(N + 7) div 8` (44_dap_transfer.md R261). -/
def swjByteCount (n : Byte) : Nat := (swjBitCount n + 7) / 8

/-- The write data bytes TransferBlock's format defines: `4 * count` for a write, none for a read (30_encoding.md
R86, R93). The product is a natural number: it does not wrap. -/
def blockByteCount (rq : Byte) (count : BitVec 16) : Nat :=
  match rqDirection rq with
  | .read => 0
  | .write => 4 * count.toNat

/-! ### The opcode map -/

/-- The eighteen commands of the closed enumeration (30_encoding.md R90). -/
inductive Opcode where
  | info | hostStatus | connect | disconnect | xferCfg | xfer | xferBlk | xferAbort | writeAbort | delay
  | resetTarget | swjPins | swjClock | swjSeq | swdCfg | jtagSeq | jtagCfg | jtagIdcode
deriving DecidableEq, Repr

/-- The opcode map (30_encoding.md R90). All eight bits count (42_dap_dispatch.md R182). The numbers are those of
ARM CMSIS-DAP, the spec's decision D1 (log 2). -/
def opcodeOf (op : Byte) : Option Opcode :=
  match op.toNat with
  | 0x00 => some .info
  | 0x01 => some .hostStatus
  | 0x02 => some .connect
  | 0x03 => some .disconnect
  | 0x04 => some .xferCfg
  | 0x05 => some .xfer
  | 0x06 => some .xferBlk
  | 0x07 => some .xferAbort
  | 0x08 => some .writeAbort
  | 0x09 => some .delay
  | 0x0A => some .resetTarget
  | 0x10 => some .swjPins
  | 0x11 => some .swjClock
  | 0x12 => some .swjSeq
  | 0x13 => some .swdCfg
  | 0x14 => some .jtagSeq
  | 0x15 => some .jtagCfg
  | 0x16 => some .jtagIdcode
  | _ => none

/-- The minimum request lengths (42_dap_dispatch.md R183 for class A; 1 for class B, 30_encoding.md R93). -/
def minLength : Opcode → Nat
  | .info => 2
  | .hostStatus => 3
  | .connect => 2
  | .disconnect => 1
  | .xferCfg => 6
  | .xfer => 6
  | .xferBlk => 4
  | .xferAbort => 1
  | .swjSeq => 2
  | .writeAbort => 1
  | .delay => 1
  | .resetTarget => 1
  | .swjPins => 1
  | .swjClock => 1
  | .swdCfg => 1
  | .jtagSeq => 1
  | .jtagCfg => 1
  | .jtagIdcode => 1

/-! ### Packets -/

/-- Why a word is no instruction. -/
inductive DecodeError where
  /-- `REQ_LEN = 0` or `REQ_LEN > 64` (42_dap_dispatch.md R181) -/
  | badLength
  /-- `REQ_LEN` below the opcode's minimum (R183) -/
  | truncated
  /-- a byte that has not the form `1pbaDP01` of a request header (30_encoding.md R70, R71) -/
  | notHeader
  /-- a byte of that form whose parity bit is wrong: "No other value of `HDR` is ever driven" (R73, R74) -/
  | headerParity
  /-- not a three-bit acknowledgement -/
  | notAck
deriving DecidableEq, Repr

/-- A `u8` field (30_encoding.md R84). -/
def readU8 (bytes : List Byte) (off : Nat) : Option Byte :=
  (readField bytes off 1).map (BitVec.ofNat 8)

/-- A `u16` field, little-endian (30_encoding.md R84). -/
def readU16 (bytes : List Byte) (off : Nat) : Option (BitVec 16) :=
  (readField bytes off 2).map (BitVec.ofNat 16)

/-- A `u32` field, little-endian (30_encoding.md R84). -/
def readU32 (bytes : List Byte) (off : Nat) : Option Word :=
  (readField bytes off 4).map (BitVec.ofNat 32)

/-- The fields of a command at the offsets of 30_encoding.md R93; no value when one of them lies outside the bytes. -/
def assemble (o : Opcode) (bytes : List Byte) : Option Instr :=
  match o with
  | .info => (readU8 bytes 1).map .info
  | .hostStatus =>
    match readU8 bytes 1, readU8 bytes 2 with
    | some t, some st => some (.hostStatus t st)
    | _, _ => none
  | .connect => (readU8 bytes 1).map .connect
  | .disconnect => some .disconnect
  | .xferCfg =>
    match readU8 bytes 1, readU16 bytes 2, readU16 bytes 4 with
    | some i, some w, some m => some (.xferCfg i w m)
    | _, _, _ => none
  | .xfer =>
    match readU8 bytes 1, readU32 bytes 2 with
    | some rq, some v => some (.xfer rq v)
    | _, _ => none
  | .xferBlk =>
    match readU8 bytes 1, readU16 bytes 2 with
    | some rq, some count => some (.xferBlk rq count ((bytes.drop 4).take (blockByteCount rq count)))
    | _, _ => none
  | .xferAbort => some .xferAbort
  | .swjSeq => (readU8 bytes 1).map fun n => .swjSeq n ((bytes.drop 2).take (swjByteCount n))
  | .writeAbort => some .writeAbort
  | .delay => some .delay
  | .resetTarget => some .resetTarget
  | .swjPins => some .swjPins
  | .swjClock => some .swjClock
  | .swdCfg => some .swdCfg
  | .jtagSeq => some .jtagSeq
  | .jtagCfg => some .jtagCfg
  | .jtagIdcode => some .jtagIdcode

/-- The dispatcher's decoding of a request of `reqLen` bytes whose buffer holds `bytes`, in the order of checks of
60_exceptions.md R305: the packet size, the opcode, the opcode's minimum length. Bytes after the last field are not
read (42_dap_dispatch.md R192). -/
def decodePacket (reqLen : Nat) (bytes : List Byte) : Except DecodeError Instr :=
  if reqLen = 0 ∨ Config.packetSize < reqLen then .error .badLength
  else
    match bytes with
    | [] => .error .badLength
    | op :: _ =>
      match opcodeOf op with
      | none => .ok (.unknown op)
      | some o =>
        if reqLen < minLength o then .error .truncated
        else
          match assemble o bytes with
          | some i => .ok i
          | none => .error .truncated

/-! ### Request headers and acknowledgements -/

/-- `parity4` of the content bits: "XOR of the four preceding content bits", the start bit not among them
(30_encoding.md R73). -/
def headerParity (port : Port) (direction : Direction) (index : BitVec 2) : Bool :=
  port.bit ^^ direction.bit ^^ index.getLsbD 0 ^^ index.getLsbD 1

/-- `HDR = 0x81 | REQ.port << 1 | REQ.direction << 2 | REQ.register_index << 3 | parity << 5` (30_encoding.md R70). -/
def headerWord (port : Port) (direction : Direction) (index : BitVec 2) : Byte :=
  0x81#8 ||| (BitVec.ofBool port.bit).setWidth 8 <<< 1 ||| (BitVec.ofBool direction.bit).setWidth 8 <<< 2
    ||| index.setWidth 8 <<< 3 ||| (BitVec.ofBool (headerParity port direction index)).setWidth 8 <<< 5

/-- The sixteen headers (30_encoding.md R74). -/
def decodeHeader (w : Byte) : Except DecodeError Instr :=
  match w.toNat with
  | 0x81 => .ok .swdHdrDpW0
  | 0xA3 => .ok .swdHdrApW0
  | 0xA5 => .ok .swdHdrDpR0
  | 0x87 => .ok .swdHdrApR0
  | 0xA9 => .ok .swdHdrDpW1
  | 0x8B => .ok .swdHdrApW1
  | 0x8D => .ok .swdHdrDpR1
  | 0xAF => .ok .swdHdrApR1
  | 0xB1 => .ok .swdHdrDpW2
  | 0x93 => .ok .swdHdrApW2
  | 0x95 => .ok .swdHdrDpR2
  | 0xB7 => .ok .swdHdrApR2
  | 0x99 => .ok .swdHdrDpW3
  | 0xBB => .ok .swdHdrApW3
  | 0xBD => .ok .swdHdrDpR3
  | 0x9F => .ok .swdHdrApR3
  | _ => if w &&& 0xC1#8 = 0x81#8 then .error .headerParity else .error .notHeader

/-- The header instruction of a port, a direction and a register index among the sixteen (30_encoding.md R74). -/
def headerInstr (port : Port) (direction : Direction) (index : BitVec 2) : Instr :=
  match port, direction, index.toNat with
  | .dp, .write, 0 => .swdHdrDpW0
  | .ap, .write, 0 => .swdHdrApW0
  | .dp, .read, 0 => .swdHdrDpR0
  | .ap, .read, 0 => .swdHdrApR0
  | .dp, .write, 1 => .swdHdrDpW1
  | .ap, .write, 1 => .swdHdrApW1
  | .dp, .read, 1 => .swdHdrDpR1
  | .ap, .read, 1 => .swdHdrApR1
  | .dp, .write, 2 => .swdHdrDpW2
  | .ap, .write, 2 => .swdHdrApW2
  | .dp, .read, 2 => .swdHdrDpR2
  | .ap, .read, 2 => .swdHdrApR2
  | .dp, .write, _ => .swdHdrDpW3
  | .ap, .write, _ => .swdHdrApW3
  | .dp, .read, _ => .swdHdrDpR3
  | .ap, .read, _ => .swdHdrApR3

/-- The eight acknowledgement values (30_encoding.md R76, R77). -/
def decodeAck (a : BitVec 3) : Instr :=
  match a.toNat with
  | 1 => .ackOk
  | 2 => .ackWait
  | 4 => .ackFault
  | 0 => .ackInvalid0
  | 3 => .ackInvalid3
  | 5 => .ackInvalid5
  | 6 => .ackInvalid6
  | _ => .ackInvalid7

/-! ### One decoder over the three formats -/

/-- The instruction a word is at the place it stands. -/
def decodeAt (port : WordPort) (bytes : List Byte) : Except DecodeError Instr :=
  match port, bytes with
  | .packet, bytes => decodePacket bytes.length bytes
  | .header, [w] => decodeHeader w
  | .header, _ => .error .notHeader
  | .ack, [w] => if w.toNat < 8 then .ok (decodeAck (w.setWidth 3)) else .error .notAck
  | .ack, _ => .error .notAck

/-! ### The encoder -/

/-- The words of an instruction: a packet without trailing bytes (30_encoding.md R93, R96), a header (R74), an
acknowledgement in the low three bits of a byte (R76, R77). -/
def encode : Instr → List Byte
  | .info id => [0x00, id]
  | .hostStatus t st => [0x01, t, st]
  | .connect p => [0x02, p]
  | .disconnect => [0x03]
  | .xferCfg i w m => 0x04 :: i :: (leBytes 2 w.toNat ++ leBytes 2 m.toNat)
  | .xfer rq v => 0x05 :: rq :: leBytes 4 v.toNat
  | .xferBlk rq count data => 0x06 :: rq :: (leBytes 2 count.toNat ++ data)
  | .xferAbort => [0x07]
  | .swjSeq n data => 0x12 :: n :: data
  | .writeAbort => [0x08]
  | .delay => [0x09]
  | .resetTarget => [0x0A]
  | .swjPins => [0x10]
  | .swjClock => [0x11]
  | .swdCfg => [0x13]
  | .jtagSeq => [0x14]
  | .jtagCfg => [0x15]
  | .jtagIdcode => [0x16]
  | .unknown op => [op]
  | .swdHdr p d i => [headerWord p d i]
  | .swdHdrDpW0 => [0x81]
  | .swdHdrApW0 => [0xA3]
  | .swdHdrDpR0 => [0xA5]
  | .swdHdrApR0 => [0x87]
  | .swdHdrDpW1 => [0xA9]
  | .swdHdrApW1 => [0x8B]
  | .swdHdrDpR1 => [0x8D]
  | .swdHdrApR1 => [0xAF]
  | .swdHdrDpW2 => [0xB1]
  | .swdHdrApW2 => [0x93]
  | .swdHdrDpR2 => [0x95]
  | .swdHdrApR2 => [0xB7]
  | .swdHdrDpW3 => [0x99]
  | .swdHdrApW3 => [0xBB]
  | .swdHdrDpR3 => [0xBD]
  | .swdHdrApR3 => [0x9F]
  | .ackOk => [0x01]
  | .ackWait => [0x02]
  | .ackFault => [0x04]
  | .ackInvalid0 => [0x00]
  | .ackInvalid3 => [0x03]
  | .ackInvalid5 => [0x05]
  | .ackInvalid6 => [0x06]
  | .ackInvalid7 => [0x07]

/-- The instruction that stands for the same word: the general header is one of the sixteen; every other instruction
is itself (log 29). -/
def Instr.canonical : Instr → Instr
  | .swdHdr p d i => headerInstr p d i
  | .info id => .info id
  | .hostStatus t st => .hostStatus t st
  | .connect p => .connect p
  | .disconnect => .disconnect
  | .xferCfg i w m => .xferCfg i w m
  | .xfer rq v => .xfer rq v
  | .xferBlk rq c data => .xferBlk rq c data
  | .xferAbort => .xferAbort
  | .swjSeq n data => .swjSeq n data
  | .writeAbort => .writeAbort
  | .delay => .delay
  | .resetTarget => .resetTarget
  | .swjPins => .swjPins
  | .swjClock => .swjClock
  | .swdCfg => .swdCfg
  | .jtagSeq => .jtagSeq
  | .jtagCfg => .jtagCfg
  | .jtagIdcode => .jtagIdcode
  | .unknown op => .unknown op
  | .swdHdrDpW0 => .swdHdrDpW0
  | .swdHdrApW0 => .swdHdrApW0
  | .swdHdrDpR0 => .swdHdrDpR0
  | .swdHdrApR0 => .swdHdrApR0
  | .swdHdrDpW1 => .swdHdrDpW1
  | .swdHdrApW1 => .swdHdrApW1
  | .swdHdrDpR1 => .swdHdrDpR1
  | .swdHdrApR1 => .swdHdrApR1
  | .swdHdrDpW2 => .swdHdrDpW2
  | .swdHdrApW2 => .swdHdrApW2
  | .swdHdrDpR2 => .swdHdrDpR2
  | .swdHdrApR2 => .swdHdrApR2
  | .swdHdrDpW3 => .swdHdrDpW3
  | .swdHdrApW3 => .swdHdrApW3
  | .swdHdrDpR3 => .swdHdrDpR3
  | .swdHdrApR3 => .swdHdrApR3
  | .ackOk => .ackOk
  | .ackWait => .ackWait
  | .ackFault => .ackFault
  | .ackInvalid0 => .ackInvalid0
  | .ackInvalid3 => .ackInvalid3
  | .ackInvalid5 => .ackInvalid5
  | .ackInvalid6 => .ackInvalid6
  | .ackInvalid7 => .ackInvalid7

/-! ### The opcode table's words, for the host -/

/-- Where a word of the opcode table stands, when only its bits are given (log 12): three bits are an
acknowledgement; one of the sixteen headers is a header; anything else is a request packet, whose UNKNOWN row has
"priority: lowest". -/
def tablePort (nbits w : Nat) : WordPort :=
  if nbits < 8 then .ack
  else
    match decodeHeader (BitVec.ofNat 8 (w % 2 ^ nbits)) with
    | .ok _ => .header
    | .error _ => .packet

/-- The word laid out as the hardware holds it: a packet of 64 bytes (the longest), or the one word of a header or an
acknowledgement. Bits above `nbits` are 0. -/
def tableBytes (nbits w : Nat) : List Byte :=
  match tablePort nbits w with
  | .ack => [BitVec.ofNat 8 (w % 8)]
  | .header => [BitVec.ofNat 8 (w % 2 ^ nbits)]
  | .packet => leBytes Config.packetSize (w % 2 ^ nbits)

/-- The instruction the decoder reads from a word of the opcode table. -/
def decodeTableWord (nbits w : Nat) : Option Instr :=
  match decodeAt (tablePort nbits w) (tableBytes nbits w) with
  | .ok i => some i
  | .error _ => none

end Sys2Proof
end

