-- ==== Sys2Proof/Machine/State.lean ====
section
/-! DEFINITION. The machine's state, all of it plain data (10_state.md; INVENTORY.md "State" lists every field with
its rule and its reset value), the reasons a step can stop, and the state after reset. -/

namespace Sys2Proof.Machine

/-- The states of the transfer engine (10_state.md R23, 41_swd_transfer.md R150). -/
inductive Fsm where
  | idle
  | hdr
  | trn1
  | ackp
  | trn2
  | rdata
  | rpar
  | wdata
  | wpar
  | idlec
  | seq
deriving DecidableEq, Repr

/-- TransferConfig (10_state.md R10 to R13). -/
structure TransferConfig where
  idleCycles : BitVec 8
  waitRetry : BitVec 16
  matchRetry : BitVec 16
deriving DecidableEq, Repr

/-- One logical register access (10_state.md R18). -/
structure TransferRequest where
  port : Port
  direction : Direction
  registerIndex : BitVec 2
  value : Word
deriving DecidableEq, Repr

/-- The result of an attempt: `RES.ack` in the coding of 30_encoding.md R78, and `RES.value`, which is no value
unless the attempt was a read that ended OK (10_state.md R19, 93_implementation_defined.md U1). -/
structure TransferResult where
  ack : BitVec 4
  value : Option Word
deriving DecidableEq, Repr

/-- The causes of `ErrorResponse` (60_exceptions.md R301): labels, never observable (log 17). -/
inductive ErrorCause where
  | badLength
  | unknownOpcode
  | notImplemented
  | truncated
  | reservedBits
  | responseTooLong
deriving DecidableEq, Repr

/-- A response as the host receives it (20_memory.md R40, 42_dap_dispatch.md R190): `RESP_BUF[0 .. RESP_LEN - 1]` and
`OK_OUT`. -/
structure Response where
  bytes : List Byte
  ok : Bool
deriving DecidableEq, Repr

/-- What waits at the block's inputs. `packet` is the host's `process_command` (20_memory.md R40); the other four are
the engine's operations called directly, as a model may allow (60_exceptions.md R333; log 11). -/
inductive Input where
  /-- a request packet with its start strobe; `REQ_LEN` is the number of its bytes -/
  | packet (bytes : List Byte)
  /-- `execute_transfer` opened by a header word, with `REQ.value` for a write; runs as one instruction -/
  | header (w : Byte) (value : Word)
  /-- `execute_transfer(REQ)`; runs as one instruction -/
  | request (req : TransferRequest)
  /-- `execute_transfer(REQ)`, one clock cycle a step (41_swd_transfer.md R150) -/
  | clockedTransfer (req : TransferRequest)
  /-- `generate_sequence(bit_count, bits)`, one clock cycle a step (R145, R150) -/
  | clockedSequence (bitCount : BitVec 32) (bits : List Byte)
deriving DecidableEq, Repr

/-- A buffer: bytes by offset, offsets strictly rising and below 64. An offset that is not listed holds no value
(20_memory.md R41, R42; log 15). -/
abbrev Memory := List Host.Cell

structure State where
  /-- `CFG` (R10 to R13) -/
  cfg : TransferConfig
  /-- `CONNECTED` (R14) -/
  connected : Bool
  /-- `DIR` (R16) -/
  dir : LineDir
  /-- `CLK` (R17) -/
  clk : Bool
  /-- `DOUT` (R17) -/
  dout : Bool
  /-- `RST` (R17) -/
  rst : Bool
  /-- `REQ` (R18) -/
  req : TransferRequest
  /-- `RES` (R19) -/
  res : TransferResult
  /-- `HDR` (R20) -/
  hdr : BitVec 8
  /-- `ACK` (R20, R25) -/
  ack : BitVec 3
  /-- `SHIFT` (R21) -/
  shift : BitVec 32
  /-- `PAR` (R21) -/
  par : Bool
  /-- `PERR` (R21) -/
  perr : Bool
  /-- `CNT` (R22; a natural number, log 16; 0 once an operation has ended, log 31) -/
  cnt : Nat
  /-- `FSM` (R23) -/
  fsm : Fsm
  /-- `bit_count` of the sequence in progress (41_swd_transfer.md R145) -/
  seqCount : BitVec 32
  /-- `bits` of the sequence in progress (R145) -/
  seqBits : List Byte
  /-- `BUSY` (R24) -/
  busy : Bool
  /-- `rp`, the request cursor (R24) -/
  rp : Nat
  /-- `wp`, the response cursor (R24) -/
  wp : Nat
  /-- `n`, the attempts made so far of one transfer (44_dap_transfer.md R243; log 16) -/
  retryCount : Nat
  /-- `done`, the completed sub-transfers of a block (R252; log 16) -/
  doneCount : Nat
  /-- `REQ_BUF`, the snapshot of the request (R26, 20_memory.md R61) -/
  reqBuf : Memory
  /-- `REQ_LEN` (R26) -/
  reqLen : Nat
  /-- `RESP_BUF` (R26) -/
  respBuf : Memory
  /-- `RESP_LEN` (R26) -/
  respLen : Nat
  /-- `OK_OUT` (R25, 42_dap_dispatch.md R190) -/
  okOut : Bool
  /-- the cause label of the last command, if it was rejected (60_exceptions.md R301, R305; log 17) -/
  cause : Option ErrorCause
  /-- the history of pin events, newest first (R28, 40_pin_primitive.md R116) -/
  trace : List PinEvent
  /-- MODEL: the target's answers to the next `get_data()` calls (R334; log 6) -/
  samples : List Bool
  /-- MODEL: what waits at the inputs (20_memory.md R59; log 10) -/
  inputs : List Input
  /-- MODEL: the responses delivered, oldest first (R57; log 30) -/
  outbox : List Response
deriving DecidableEq, Repr

/-- Faults: the machine is in a state that has no meaning. No instruction ends in one. -/
inductive Fault where
  /-- Raised by a clocked step of the FSM whose `CNT` is not below the length of its phase: R150 has no such state
  and no run reaches one (log 18). Safe. -/
  | counterPastPhase
  /-- Raised by a clocked step of `SEQ` whose byte sequence has no bit `CNT`: a broken precondition (41_swd_transfer.md
  R146), which no run reaches (log 18). Safe. -/
  | sequenceBitMissing
deriving DecidableEq, Repr

/-- Refusals: a situation the spec gives no meaning. -/
inductive Refusal where
  /-- Raised by `exec` for an instruction that has no meaning yet. Safe. -/
  | notModelled (mnemonic : String)
  /-- Raised by a step that starts while `BUSY = 1`: two `process_command` executions at once
  (93_implementation_defined.md U14; log 9). Safe. -/
  | commandInProgress
  /-- Raised by a step that takes a raw sequence with fewer than `ceil(bit_count / 8)` bytes at the engine's own entry
  (41_swd_transfer.md R146, 93_implementation_defined.md U13; log 19). Safe. -/
  | shortSequence
  /-- Raised by a step that takes a word that is none of the sixteen headers at the engine's own entry (30_encoding.md
  R74; log 13). Safe. -/
  | notAHeader
deriving DecidableEq, Repr

/-- The state at the creation of an instance with the three reset parameters (10_state.md R35, R37,
70_reset_and_hazards.md R340, R341). The pins and the working registers, for which the spec gives no value, start at
the values of logs 4 and 5. -/
def State.resetWith (idleCycles : BitVec 8) (waitRetry matchRetry : BitVec 16) : State where
  cfg := ⟨idleCycles, waitRetry, matchRetry⟩
  connected := false
  dir := .input
  clk := false
  dout := false
  rst := false
  req := ⟨.dp, .write, 0, 0⟩
  res := ⟨0, none⟩
  hdr := 0
  ack := 0
  shift := 0
  par := false
  perr := false
  cnt := 0
  fsm := .idle
  seqCount := 0
  seqBits := []
  busy := false
  rp := 0
  wp := 0
  retryCount := 0
  doneCount := 0
  reqBuf := []
  reqLen := 0
  respBuf := []
  respLen := 0
  okOut := false
  cause := none
  trace := []
  samples := []
  inputs := []
  outbox := []

/-- The machine right after reset. -/
def State.reset : State :=
  State.resetWith Config.resetIdleCycles Config.resetWaitRetry Config.resetMatchRetry

end Sys2Proof.Machine
end

