-- ==== Sys2Proof/Machine/Flags.lean ====
section
/-! DEFINITION. The flag computations: parity (00_scope.md R6), the acknowledgement flags and their comparison as whole
values (10_state.md R25), the coding of results (30_encoding.md R78). -/

namespace Sys2Proof.Machine

/-- The exclusive-or of bits 0 to `n - 1` of a value. -/
def parityBelow {w : Nat} (v : BitVec w) : Nat → Bool
  | 0 => false
  | n + 1 => parityBelow v n ^^ v.getLsbD n

/-- `parity4`, `parity32`: the exclusive-or of all the bits of a value (00_scope.md R6). -/
def parity {w : Nat} (v : BitVec w) : Bool := parityBelow v w

/-- `ACK_OK`, `ACK_WAIT`, `ACK_FAULT` as sampled values (30_encoding.md R76). -/
def ackOk : BitVec 3 := 1
def ackWait : BitVec 3 := 2
def ackFault : BitVec 3 := 4

/-- The results OK, WAIT, FAULT, PROTOCOL_ERROR (30_encoding.md R78). -/
def resOk : BitVec 4 := 1
def resWait : BitVec 4 := 2
def resFault : BitVec 4 := 4
def resProtocolError : BitVec 4 := 8

/-- `RES.ack = zext_4(ACK)` and no value: the result of an attempt without a data phase (41_swd_transfer.md R136). -/
def ackResult (ack : BitVec 3) : TransferResult := ⟨ack.setWidth 4, none⟩

/-- The result of a write that was acknowledged OK (41_swd_transfer.md R139). -/
def writeResult : TransferResult := ⟨resOk, none⟩

/-- The result of a read by its parity check: the value, or PROTOCOL_ERROR and no value (41_swd_transfer.md R138). -/
def readResult (parityError : Bool) (shift : Word) : TransferResult :=
  if parityError then ⟨resProtocolError, none⟩ else ⟨resOk, some shift⟩

/-- The value a handler may surface: "callers must check `ack` before reading `value`" (10_state.md R19,
44_dap_transfer.md R245). -/
def surfacedValue (direction : Direction) (res : TransferResult) : Option Word :=
  if direction = .read ∧ res.ack = resOk then res.value else none

end Sys2Proof.Machine
end

