-- ==== Sys2Proof/Machine/Ops.lean ====
section
/-! DEFINITION. The named operations over the buffers, the pins and the dispatcher's registers: `ReqRead`, `RespWrite`
(20_memory.md), the consumed capabilities and the three one-cycle primitives (40_pin_primitive.md), taking an
`ErrorResponse` and returning from it (60_exceptions.md R310, R313). -/

namespace Sys2Proof.Machine

/-! ### Buffers -/

/-- The byte at an offset; an offset that is not listed holds no value. -/
def Memory.read : Memory → Nat → Option Byte
  | [], _ => none
  | (c, x) :: m, a => if c = a then some x else Memory.read m a

/-- Store a byte in the canonical form: offsets strictly rising. -/
def Memory.insert : Memory → Nat → Byte → Memory
  | [], a, b => [(a, b)]
  | (c, x) :: m, a, b =>
    if a < c then (a, b) :: (c, x) :: m
    else if a = c then (a, b) :: m
    else (c, x) :: Memory.insert m a b

/-- Write one byte of a 64-byte buffer. Nothing is ever written outside it (20_memory.md R42). -/
def Memory.write (m : Memory) (a : Nat) (b : Byte) : Memory :=
  if a < Config.respCap then Memory.insert m a b else m

/-- A byte sequence as the content of a buffer from an offset on. -/
def Memory.ofBytes : Nat → List Byte → Memory
  | _, [] => []
  | a, b :: bs => (a, b) :: Memory.ofBytes (a + 1) bs

/-- The bytes at offsets `0` to `n - 1`. -/
def Memory.bytes (m : Memory) (n : Nat) : List Byte := (List.range n).filterMap (Memory.read m)

/-- All offsets are strictly above `lo` and strictly rising, and below 64. -/
def Memory.rising : Option Nat → Memory → Bool
  | _, [] => true
  | none, (a, _) :: m => a < 64 && Memory.rising (some a) m
  | some lo, (a, _) :: m => lo < a && a < 64 && Memory.rising (some a) m

/-- The canonical form of a buffer. -/
def Memory.wf (m : Memory) : Bool := Memory.rising none m

/-- The content of `REQ_BUF` inside `REQ_LEN`. -/
def State.requestBytes (s : State) : List Byte := Memory.bytes s.reqBuf (min s.reqLen Config.packetSize)

/-- `ReqRead(off, n)` (20_memory.md R41, R44): no value outside `REQ_LEN`. -/
def State.reqRead (s : State) (off n : Nat) : Option Nat :=
  if off + n ≤ s.reqLen then readField s.requestBytes off n else none

/-- Write a byte sequence into `RESP_BUF` from an offset on. -/
def State.respWriteBytes (off : Nat) : List Byte → State → State
  | [], s => s
  | b :: bs, s => State.respWriteBytes (off + 1) bs { s with respBuf := Memory.write s.respBuf off b }

/-- `RespWrite(off, n, v)`: little-endian (20_memory.md R45). -/
def State.respWrite (off n v : Nat) (s : State) : State := s.respWriteBytes off (leBytes n v)

/-- The response as the host may read it: `RESP_BUF[0 .. RESP_LEN - 1]` (20_memory.md R42). -/
def State.response (s : State) : List Byte := Memory.bytes s.respBuf s.respLen

/-! ### The consumed capabilities (60_exceptions.md R330, R331) -/

def setClock (l : Bool) (s : State) : State := { s with clk := l, trace := .setClock l :: s.trace }

def setData (l : Bool) (s : State) : State := { s with dout := l, trace := .setData l :: s.trace }

def setDirection (d : LineDir) (s : State) : State := { s with dir := d, trace := .setDirection d :: s.trace }

/-- `set_reset(level)`: no rule calls it (40_pin_primitive.md R117), and no definition of this model does. -/
def setReset (l : Bool) (s : State) : State := { s with rst := l, trace := .setReset l :: s.trace }

def delayHalf (s : State) : State := { s with trace := .delay :: s.trace }

/-- The level the target answers to a `get_data()` made now: the next of the answers given in advance, and past
their end a free value of the whole pin-event history (60_exceptions.md R334; log 6). -/
def State.lineLevel (s : State) : Bool :=
  match s.samples with
  | b :: _ => b
  | [] => Config.targetBit s.trace

/-- `get_data()`: the call, whose result is `lineLevel`. -/
def getData (s : State) : State :=
  { s with samples := s.samples.tail, trace := .getData s.lineLevel :: s.trace }

/-! ### The one-cycle primitives (40_pin_primitive.md R111 to R114) -/

/-- The first half of a clock cycle: the line low for a half-period. -/
def clockLow (s : State) : State := delayHalf (setClock false s)

/-- The second half of a clock cycle: the line high for a half-period. -/
def clockHigh (s : State) : State := delayHalf (setClock true s)

/-- `write_bit(b)` (R112). -/
def writeBit (b : Bool) (s : State) : State := clockHigh (clockLow (setData b s))

/-- The bit `read_bit()` returns: the level at the end of the low half (R113). -/
def sampledBit (s : State) : Bool := (clockLow s).lineLevel

/-- `read_bit()`'s effect (R113). -/
def readBit (s : State) : State := clockHigh (getData (clockLow s))

/-- `turn_cycle()` (R114). -/
def turnCycle (s : State) : State := clockHigh (clockLow s)

/-- `for CNT in 0 .. n - 1`: the operation of a phase, once for each bit index, in order. -/
def forCnt (op : Nat → State → State) : Nat → State → State
  | 0, s => s
  | n + 1, s => op n (forCnt op n s)

/-- `repeat n: turn_cycle()`. -/
def turnCycles (n : Nat) (s : State) : State := forCnt (fun _ => turnCycle) n s

/-! ### The dispatcher's operations -/

/-- The start of a handler (42_dap_dispatch.md R184, R193): `OK_OUT <- 1`, the opcode echo into response byte 0,
`rp <- 1`, `wp <- 1`. The response buffer holds nothing else yet. -/
def beginCommand (op : Byte) (s : State) : State :=
  { s with okOut := true, cause := none, respBuf := Memory.write [] 0 op, rp := 1, wp := 1 }

/-- The end of a handler: `RESP_LEN <- wp` (R184). -/
def endCommand (s : State) : State := { s with respLen := s.wp }

/-- `raise ErrorResponse(cause)` (60_exceptions.md R310): `RESP_BUF[0] <- 0xFF`, `RESP_LEN <- 1`, `OK_OUT <- 0`,
`BUSY <- 0`, nothing saved and nothing else changed; the other response bytes hold no value. The label is kept
(log 17). -/
def errorResponse (cause : ErrorCause) (s : State) : State :=
  { s with
    respBuf := [(0, Config.errSentinel)], respLen := 1, okOut := false, busy := false, cause := some cause }

/-- The return to the host after a command, rejected or not (42_dap_dispatch.md R193, 60_exceptions.md R313):
`BUSY <- 0`, and the response is delivered (20_memory.md R57). There is no other return from an `ErrorResponse`. -/
def returnToHost (s : State) : State :=
  { s with busy := false, outbox := s.outbox ++ [⟨s.response, s.okOut⟩] }

/-- The start of a command: the snapshot of the request, `BUSY <- 1` (42_dap_dispatch.md R193, 20_memory.md R61).
`REQ_BUF` holds the first 64 bytes; a longer request is rejected without a byte being read (R181). -/
def acceptPacket (bytes : List Byte) (rest : List Input) (s : State) : State :=
  { s with
    inputs := rest
    reqBuf := Memory.ofBytes 0 (bytes.take Config.packetSize)
    reqLen := bytes.length
    busy := true }

end Sys2Proof.Machine
end

