-- ==== Sys2Proof/Machine/Operands.lean ====
section
/-! DEFINITION. Every operand form: the transfer request byte as a TransferRequest (44_dap_transfer.md R241), the header
assembled from it (41_swd_transfer.md R132), the bits of a raw sequence (20_memory.md R49), the words of a block
(R250), and the placing of a sampled bit. -/

namespace Sys2Proof.Machine

/-- "The transfer request byte `rq` gives the TransferRequest" (44_dap_transfer.md R241). -/
def requestOf (rq : Byte) (value : Word) : TransferRequest :=
  ⟨rqPort rq, rqDirection rq, rqIndex rq, value⟩

/-- Step 1, header assembly (41_swd_transfer.md R132). -/
def headerOf (req : TransferRequest) : Byte := headerWord req.port req.direction req.registerIndex

/-- `bits[k div 8][k mod 8]`: the `k`-th bit of a raw sequence (20_memory.md R49). DESIGN CHOICE (log 32): past the last byte
the bit is 0. Such a call has no meaning (41_swd_transfer.md R146, U13): the step and `execSwjSeq` never make one. -/
def sequenceBit (bits : List Byte) (k : Nat) : Bool := (bits.getD (k / 8) 0).getLsbD (k % 8)

/-- The precondition of `generate_sequence`: at least `ceil(bit_count / 8)` bytes (41_swd_transfer.md R145, R146). -/
def sequenceFits (bitCount : BitVec 32) (bits : List Byte) : Bool := (bitCount.toNat + 7) / 8 ≤ bits.length

/-- Data word `i` of a write block: four bytes little-endian from offset `4 + 4i` of the packet, that is, from `4i` of
its data (44_dap_transfer.md R250). DESIGN CHOICE (log 32): bytes past the end count as 0; `blockCheck` rejects a block
that lacks any. -/
def blockWord (data : List Byte) (i : Nat) : Word := BitVec.ofNat 32 (leNat ((data.drop (4 * i)).take 4))

/-- `v[k] <- b`: a register with one bit placed. -/
def placeBit {w : Nat} (v : BitVec w) (k : Nat) (b : Bool) : BitVec w :=
  (v &&& ~~~(1#w <<< k)) ||| ((BitVec.ofBool b).setWidth w <<< k)

end Sys2Proof.Machine
end

