-- ==== Sys2Proof/Machine/Engine.lean ====
section
/-! DEFINITION. The SWD transfer engine (41_swd_transfer.md): `execute_transfer` as the pseudocode of R152, step by
step, and `generate_sequence` (R145). `trn` is TRN_CYCLES (R140). Every path answers a state (R144, "No
exceptions/panics"). -/

namespace Sys2Proof.Machine

/-! ### The cycle of each phase -/

/-- A cycle of the header: `write_bit(HDR[CNT])` (R133). -/
def driveHeaderBit (k : Nat) (s : State) : State := writeBit (s.hdr.getLsbD k) s

/-- A cycle of the acknowledgement: `ACK[CNT] <- read_bit()` (R135). -/
def sampleAckBit (k : Nat) (s : State) : State :=
  { readBit s with ack := placeBit s.ack k (sampledBit s) }

/-- A cycle of a read's data: `b <- read_bit()`, `SHIFT[CNT] <- b`, `PAR <- PAR ^ b` (R137). -/
def sampleDataBit (k : Nat) (s : State) : State :=
  { readBit s with shift := placeBit s.shift k (sampledBit s), par := s.par ^^ sampledBit s }

/-- The 33rd cycle of a read: `pb <- read_bit()`, and whether it differs from `PAR` (R137, R150). -/
def sampleParityBit (s : State) : State := { readBit s with perr := sampledBit s ^^ s.par }

/-- A cycle of a write's data: `write_bit(SHIFT[CNT])`, `PAR <- PAR ^ SHIFT[CNT]` (R139). -/
def driveDataBit (k : Nat) (s : State) : State :=
  { writeBit (s.shift.getLsbD k) s with par := s.par ^^ s.shift.getLsbD k }

/-- A cycle of a raw sequence: `write_bit(bits[CNT div 8][CNT mod 8])` (R145). -/
def driveSequenceBit (k : Nat) (s : State) : State := writeBit (sequenceBit s.seqBits k) s

/-! ### `execute_transfer` -/

/-- The request is latched and its header assembled (R132). -/
def latchRequest (req : TransferRequest) (s : State) : State :=
  { s with req := req, hdr := headerOf req, perr := false }

/-- Step 2: the line is taken, unconditionally, and the header driven whole (R133, R134). -/
def headerPhase (s : State) : State := forCnt driveHeaderBit 8 (setDirection .output s)

/-- Step 3: the line is released and the three acknowledgement bits sampled (R135). -/
def ackPhase (trn : Nat) (s : State) : State := forCnt sampleAckBit 3 (turnCycles trn (setDirection .input s))

/-- The end of an attempt: the result, and `FSM = IDLE` (10_state.md R23). DESIGN CHOICE (log 31): `CNT` is then 0; R150's
exits write only `FSM`, and R37 leaves `CNT` unspecified between operations. -/
def finishTransfer (res : TransferResult) (s : State) : State := { s with res := res, fsm := .idle, cnt := 0 }

/-- Step 4: no data phase and no idle cycles; the acknowledgement is returned as it was sampled (R136). -/
def noDataPhase (trn : Nat) (s : State) : State := finishTransfer (ackResult s.ack) (turnCycles trn s)

/-- The idle cycles after a read: the line stays released (R141). -/
def idleCyclesAfterRead (s : State) : State := turnCycles s.cfg.idleCycles.toNat s

/-- The idle cycles after a write: when there are any, the line is first set low, once (R141). -/
def idleCyclesAfterWrite (s : State) : State :=
  if s.cfg.idleCycles = 0 then s else turnCycles s.cfg.idleCycles.toNat (setData false s)

/-- The 32 data cycles of a read. -/
def readDataPhase (s : State) : State := forCnt sampleDataBit 32 { s with par := false }

/-- Step 5: 32 data bits, the parity bit, the trailing turnaround, the idle cycles, and the result by the parity check
(R137, R138). -/
def readPhase (trn : Nat) (s : State) : State :=
  let s := idleCyclesAfterRead (turnCycles trn (sampleParityBit (readDataPhase s)))
  finishTransfer (readResult s.perr s.shift) s

/-- The 32 data cycles of a write. -/
def writeDataPhase (s : State) : State := forCnt driveDataBit 32 { s with shift := s.req.value, par := false }

/-- A write's parity bit: `write_bit(PAR)` (R139). -/
def driveParityBit (s : State) : State := writeBit s.par s

/-- Step 6: the turnaround, the line taken, 32 data bits, the parity bit, the idle cycles (R139). -/
def writePhase (trn : Nat) (s : State) : State :=
  finishTransfer writeResult
    (idleCyclesAfterWrite (driveParityBit (writeDataPhase (setDirection .output (turnCycles trn s)))))

/-- The data phase of an attempt that was acknowledged OK, by the direction of its request. -/
def dataPhase (trn : Nat) (s : State) : State :=
  match s.req.direction with
  | .read => readPhase trn s
  | .write => writePhase trn s

/-- What follows the third acknowledgement bit: the whole value is compared with 1 (30_encoding.md R77). -/
def afterAck (trn : Nat) (s : State) : State := if s.ack = ackOk then dataPhase trn s else noDataPhase trn s

/-- `execute_transfer(REQ)`: one attempt (R130, R152). -/
def executeTransfer (trn : Nat) (req : TransferRequest) (s : State) : State :=
  afterAck trn (ackPhase trn (headerPhase (latchRequest req s)))

/-! ### `generate_sequence` -/

/-- The operands of a raw sequence are latched. -/
def latchSequence (bitCount : BitVec 32) (bits : List Byte) (s : State) : State :=
  { s with seqCount := bitCount, seqBits := bits }

/-- The end of a raw sequence: no result. DESIGN CHOICE (log 31): `CNT` is then 0, as after an attempt. -/
def finishSequence (s : State) : State := { s with fsm := .idle, cnt := 0 }

/-- `generate_sequence(bit_count, bits)` (R145). Its precondition `sequenceFits` is the caller's to check;
without it the missing bits are 0 (log 32). -/
def generateSequence (bitCount : BitVec 32) (bits : List Byte) (s : State) : State :=
  finishSequence (forCnt driveSequenceBit bitCount.toNat (setDirection .output (latchSequence bitCount bits s)))

end Sys2Proof.Machine
end

