-- ==== Sys2Proof/Machine/Acks.lean ====
section
/-! DEFINITION. The acknowledgements: what the engine does once the three bits are sampled (41_swd_transfer.md R136, R137,
R139). They are compared as whole values (30_encoding.md R77). -/

namespace Sys2Proof.Machine

/-- An acknowledgement of any value but 1: `ACK` holds it, the attempt ends without a data phase and reports it as it was
sampled (41_swd_transfer.md R136). -/
def endWithAck (a : BitVec 3) (s : State) : State := noDataPhase Config.trnCycles { s with ack := a }

/-- ACK_OK: the data phase follows, in or out by the direction of the request (R137, R139). -/
def execAckOk (s : State) : Host.Outcome State Fault Refusal := .next (dataPhase Config.trnCycles { s with ack := 1 })

/-- ACK_WAIT: reported and not retried by the engine (R136, R142). -/
def execAckWait (s : State) : Host.Outcome State Fault Refusal := .next (endWithAck 2 s)

/-- ACK_FAULT (R136, R142). -/
def execAckFault (s : State) : Host.Outcome State Fault Refusal := .next (endWithAck 4 s)

/-- ACK_INVALID_0: returned as it was sampled (30_encoding.md R77). -/
def execAckInvalid0 (s : State) : Host.Outcome State Fault Refusal := .next (endWithAck 0 s)

/-- ACK_INVALID_3: returned as it was sampled (30_encoding.md R77). -/
def execAckInvalid3 (s : State) : Host.Outcome State Fault Refusal := .next (endWithAck 3 s)

/-- ACK_INVALID_5: returned as it was sampled (30_encoding.md R77). -/
def execAckInvalid5 (s : State) : Host.Outcome State Fault Refusal := .next (endWithAck 5 s)

/-- ACK_INVALID_6: returned as it was sampled (30_encoding.md R77). -/
def execAckInvalid6 (s : State) : Host.Outcome State Fault Refusal := .next (endWithAck 6 s)

/-- ACK_INVALID_7: returned as it was sampled (30_encoding.md R77). -/
def execAckInvalid7 (s : State) : Host.Outcome State Fault Refusal := .next (endWithAck 7 s)

end Sys2Proof.Machine
end

