-- ==== Sys2Proof/Machine/Control.lean ====
section
/-! DEFINITION. The information, connection and configuration commands (43_dap_config_info.md). None makes a pin call
(R225). Each meaning is the handler of R193's dispatch, from the echo to `RESP_LEN <- wp`. -/

namespace Sys2Proof.Machine

/-- The value Info returns: `INFO_TABLE(id)`, and no bytes for an identifier that is not in it, "a documented quirk,
not a bug" (R210, R211). -/
def infoValue (table : Byte → Option Config.InfoValue) (id : Byte) : List Byte :=
  match table id with
  | some v => v.val
  | none => []

/-- Info with a given table (R210). -/
def infoCommand (table : Byte → Option Config.InfoValue) (id : Byte) (s : State) : State :=
  let v := infoValue table id
  let s := { beginCommand 0x00 s with rp := 2 }
  let s := (s.respWrite 1 1 v.length).respWriteBytes 2 v
  endCommand { s with wp := 2 + v.length }

/-- INFO (R210, R211, R212): the table is a free value (log 7). -/
def execInfo (id : Byte) (s : State) : Host.Outcome State Fault Refusal :=
  .next (infoCommand Config.infoTable id s)

/-- HOSTSTATUS (R214): both operands are read and ignored; "Its whole architectural effect is therefore nothing". -/
def execHostStatus (_type _status : Byte) (s : State) : Host.Outcome State Fault Refusal :=
  .next (endCommand { (beginCommand 0x01 s).respWrite 1 1 0x00 with rp := 3, wp := 2 })

/-- The port Connect reports: 1 for the ports 0 and 1, and 0 for any other (R216). -/
def connectResult (port : Byte) : Bool := port = 0 || port = 1

/-- CONNECT (R216). -/
def execConnect (port : Byte) (s : State) : Host.Outcome State Fault Refusal :=
  let p := connectResult port
  .next (endCommand { (beginCommand 0x02 s).respWrite 1 1 p.toNat with connected := p, rp := 2, wp := 2 })

/-- DISCONNECT (R218). -/
def execDisconnect (s : State) : Host.Outcome State Fault Refusal :=
  .next (endCommand { (beginCommand 0x03 s).respWrite 1 1 0x00 with connected := false, wp := 2 })

/-- XFERCFG, TransferConfigure (R220, R222): all three fields, together. -/
def execXferCfg (idleCycles : BitVec 8) (waitRetry matchRetry : BitVec 16) (s : State) :
    Host.Outcome State Fault Refusal :=
  .next (endCommand
    { (beginCommand 0x04 s).respWrite 1 1 0x00 with cfg := ⟨idleCycles, waitRetry, matchRetry⟩, rp := 6, wp := 2 })

/-- XFERABORT, TransferAbort (R224): "it has no effect"; the response is the opcode echo alone. -/
def execXferAbort (s : State) : Host.Outcome State Fault Refusal :=
  .next (endCommand (beginCommand 0x07 s))

end Sys2Proof.Machine
end

