-- ==== Sys2Proof/Machine/Headers.lean ====
section
/-! DEFINITION. The request headers: each opens one attempt of the engine (41_swd_transfer.md R152), with `REQ.value` as
it stands for a write. -/

namespace Sys2Proof.Machine

/-- The attempt a header opens: `execute_transfer` of its port, direction and register index, with `REQ.value`. -/
def headerAttempt (port : Port) (direction : Direction) (index : BitVec 2) (s : State) : State :=
  executeTransfer Config.trnCycles ⟨port, direction, index, s.req.value⟩ s

/-- SWDHDR: the header in general (30_encoding.md R70, 41_swd_transfer.md R132, R152). -/
def execSwdHdr (port : Port) (direction : Direction) (index : BitVec 2) (s : State) :
    Host.Outcome State Fault Refusal :=
  .next (headerAttempt port direction index s)

/-- SWDHDR_DP_W_0, 0x81 (30_encoding.md R74). -/
def execSwdHdrDpW0 (s : State) : Host.Outcome State Fault Refusal := .next (headerAttempt .dp .write 0 s)

/-- SWDHDR_AP_W_0, 0xA3 (30_encoding.md R74). -/
def execSwdHdrApW0 (s : State) : Host.Outcome State Fault Refusal := .next (headerAttempt .ap .write 0 s)

/-- SWDHDR_DP_R_0, 0xA5 (30_encoding.md R74). -/
def execSwdHdrDpR0 (s : State) : Host.Outcome State Fault Refusal := .next (headerAttempt .dp .read 0 s)

/-- SWDHDR_AP_R_0, 0x87 (30_encoding.md R74). -/
def execSwdHdrApR0 (s : State) : Host.Outcome State Fault Refusal := .next (headerAttempt .ap .read 0 s)

/-- SWDHDR_DP_W_1, 0xA9 (30_encoding.md R74). -/
def execSwdHdrDpW1 (s : State) : Host.Outcome State Fault Refusal := .next (headerAttempt .dp .write 1 s)

/-- SWDHDR_AP_W_1, 0x8B (30_encoding.md R74). -/
def execSwdHdrApW1 (s : State) : Host.Outcome State Fault Refusal := .next (headerAttempt .ap .write 1 s)

/-- SWDHDR_DP_R_1, 0x8D (30_encoding.md R74). -/
def execSwdHdrDpR1 (s : State) : Host.Outcome State Fault Refusal := .next (headerAttempt .dp .read 1 s)

/-- SWDHDR_AP_R_1, 0xAF (30_encoding.md R74). -/
def execSwdHdrApR1 (s : State) : Host.Outcome State Fault Refusal := .next (headerAttempt .ap .read 1 s)

/-- SWDHDR_DP_W_2, 0xB1 (30_encoding.md R74). -/
def execSwdHdrDpW2 (s : State) : Host.Outcome State Fault Refusal := .next (headerAttempt .dp .write 2 s)

/-- SWDHDR_AP_W_2, 0x93 (30_encoding.md R74). -/
def execSwdHdrApW2 (s : State) : Host.Outcome State Fault Refusal := .next (headerAttempt .ap .write 2 s)

/-- SWDHDR_DP_R_2, 0x95 (30_encoding.md R74). -/
def execSwdHdrDpR2 (s : State) : Host.Outcome State Fault Refusal := .next (headerAttempt .dp .read 2 s)

/-- SWDHDR_AP_R_2, 0xB7 (30_encoding.md R74). -/
def execSwdHdrApR2 (s : State) : Host.Outcome State Fault Refusal := .next (headerAttempt .ap .read 2 s)

/-- SWDHDR_DP_W_3, 0x99 (30_encoding.md R74). -/
def execSwdHdrDpW3 (s : State) : Host.Outcome State Fault Refusal := .next (headerAttempt .dp .write 3 s)

/-- SWDHDR_AP_W_3, 0xBB (30_encoding.md R74). -/
def execSwdHdrApW3 (s : State) : Host.Outcome State Fault Refusal := .next (headerAttempt .ap .write 3 s)

/-- SWDHDR_DP_R_3, 0xBD (30_encoding.md R74). -/
def execSwdHdrDpR3 (s : State) : Host.Outcome State Fault Refusal := .next (headerAttempt .dp .read 3 s)

/-- SWDHDR_AP_R_3, 0x9F (30_encoding.md R74). -/
def execSwdHdrApR3 (s : State) : Host.Outcome State Fault Refusal := .next (headerAttempt .ap .read 3 s)

end Sys2Proof.Machine
end

