-- ==== Sys2Proof/Machine/Transfer.lean ====
section
/-! DEFINITION. The transfer commands (44_dap_transfer.md): the retry loop, Transfer, TransferBlock, SWJ_Sequence.
`trn` is TRN_CYCLES. A non-OK acknowledgement is no exception: the command completes and its response carries it
(60_exceptions.md R302). -/

namespace Sys2Proof.Machine

/-! ### The retry loop -/

/-- One attempt, counted: `RES <- execute_transfer(REQ); n <- n + 1` (R243). -/
def attempt (trn : Nat) (req : TransferRequest) (s : State) : State :=
  let s := executeTransfer trn req s
  { s with retryCount := s.retryCount + 1 }

/-- The loop, with the number of attempts still allowed after the next one: it repeats only on `RES.ack = 2` (R243). -/
def retryLoop (trn : Nat) (req : TransferRequest) : Nat → State → State
  | 0, s => attempt trn req s
  | more + 1, s =>
    let s := attempt trn req s
    if s.res.ack = resWait then retryLoop trn req more s else s

/-- `max(1, CFG.wait_retry)`, the attempts allowed in all (R244). -/
def retryBudget (s : State) : Nat := max 1 s.cfg.waitRetry.toNat

/-- `transfer_with_retry(REQ)` (R243). -/
def transferWithRetry (trn : Nat) (req : TransferRequest) (s : State) : State :=
  retryLoop trn req (retryBudget s - 1) { s with retryCount := 0 }

/-! ### Transfer -/

/-- The response of Transfer: the acknowledgement, and the value bytes only for a read that ended OK (R245); the
command fails when the acknowledgement is not OK (42_dap_dispatch.md R190). -/
def transferResponse (direction : Direction) (s : State) : State :=
  let s := { s.respWrite 1 1 s.res.ack.toNat with wp := 2, okOut := s.okOut && s.res.ack == resOk }
  match surfacedValue direction s.res with
  | some v => { s.respWrite 2 4 v.toNat with wp := 6 }
  | none => s

/-- Transfer past its checks (R246). -/
def transferCommand (trn : Nat) (rq : Byte) (operand : Word) (s : State) : State :=
  let s := transferWithRetry trn (requestOf rq operand) { beginCommand 0x05 s with rp := 6 }
  endCommand (transferResponse (rqDirection rq) s)

/-- XFER (R246). -/
def execXfer (rq : Byte) (operand : Word) (s : State) : Host.Outcome State Fault Refusal :=
  if rqReserved rq then .next (errorResponse .reservedBits s)
  else .next (transferCommand Config.trnCycles rq operand s)

/-! ### TransferBlock -/

/-- The next data word of a write block: `REQ.value <- ReqRead(4 + 4 * done, 4)`. A read takes nothing from the request;
the engine does not read `REQ.value` then (log 22). -/
def loadBlockWord (req : TransferRequest) (data : List Byte) (s : State) : State :=
  match req.direction with
  | .write => { s with req := { req with value := blockWord data s.doneCount }, rp := 8 + 4 * s.doneCount }
  | .read => { s with req := { req with value := s.req.value } }

/-- A completed sub-transfer: a read's value goes to response offset `4 + 4 * done`, and `done <- done + 1` (R252,
R253). -/
def storeBlockWord (direction : Direction) (s : State) : State :=
  let s' :=
    match surfacedValue direction s.res with
    | some v => s.respWrite (4 + 4 * s.doneCount) 4 v.toNat
    | none => s
  { s' with doneCount := s.doneCount + 1 }

/-- The loop of TransferBlock, with the number of sub-transfers still to make and the acknowledgement so far (R252,
R255, R256). -/
def blockLoop (trn : Nat) (req : TransferRequest) (data : List Byte) : Nat → BitVec 4 → State → BitVec 4 × State
  | 0, ack, s => (ack, s)
  | more + 1, _, s =>
    let s := loadBlockWord req data s
    let s := transferWithRetry trn s.req s
    if s.res.ack = resOk then blockLoop trn req data more s.res.ack (storeBlockWord req.direction s)
    else (s.res.ack, s)

/-- The response of TransferBlock: `done`, the last acknowledgement, and the length by direction (R253); the command
fails when it stopped early (42_dap_dispatch.md R190). -/
def blockResponse (direction : Direction) (count : Nat) (ack : BitVec 4) (s : State) : State :=
  { (s.respWrite 1 2 s.doneCount).respWrite 3 1 ack.toNat with
    wp := match direction with
      | .read => 4 + 4 * s.doneCount
      | .write => 4
    okOut := s.okOut && !(s.doneCount < count : Bool) }

/-- TransferBlock past its checks (R256): port, direction and index of `REQ` are assigned before the loop, so in an empty
block too; `REQ.value` then keeps what it held (log 22). -/
def blockCommand (trn : Nat) (rq : Byte) (count : BitVec 16) (data : List Byte) (s : State) : State :=
  let s := { beginCommand 0x06 s with rp := 4, doneCount := 0, req := requestOf rq s.req.value }
  let r := blockLoop trn s.req data count.toNat 0 s
  endCommand (blockResponse (rqDirection rq) count.toNat r.1 r.2)

/-- The check of TransferBlock that fails first, if one does (R242, R251): the reserved bits; a write whose data is not
all in the packet; a read whose data does not fit the response. The products are natural numbers (R262). -/
def blockCheck (rq : Byte) (count : BitVec 16) (data : List Byte) : Option ErrorCause :=
  if rqReserved rq then some .reservedBits
  else
    match rqDirection rq with
    | .write => if data.length < 4 * count.toNat then some .truncated else none
    | .read => if Config.respCap < 4 + 4 * count.toNat then some .responseTooLong else none

/-- XFERBLK (R256). -/
def execXferBlk (rq : Byte) (count : BitVec 16) (data : List Byte) (s : State) : Host.Outcome State Fault Refusal :=
  match blockCheck rq count data with
  | some cause => .next (errorResponse cause s)
  | none => .next (blockCommand Config.trnCycles rq count data s)

/-! ### SWJ_Sequence -/

/-- SWJ_Sequence past its check (R261). -/
def sequenceCommand (n : Byte) (data : List Byte) (s : State) : State :=
  let s := generateSequence (BitVec.ofNat 32 (swjBitCount n)) data { beginCommand 0x12 s with rp := 2 + swjByteCount n }
  endCommand { s.respWrite 1 1 0x00 with wp := 2 }

/-- SWJSEQ (R260, R261). -/
def execSwjSeq (n : Byte) (data : List Byte) (s : State) : Host.Outcome State Fault Refusal :=
  if data.length < swjByteCount n then .next (errorResponse .truncated s)
  else .next (sequenceCommand n data s)

end Sys2Proof.Machine
end

