-- ==== Sys2Proof/Machine/Unimplemented.lean ====
section
/-! DEFINITION. The nine enumerated commands with no behaviour in the source (45_dap_unimplemented.md) and the default
handler for unknown opcodes (42_dap_dispatch.md R185). Each takes an `ErrorResponse`: that is the meaning the spec
gives it (R280, the spec's decision D22; log 20). -/

namespace Sys2Proof.Machine

/-- `ClassB(op)`: `raise ErrorResponse(NOT_IMPLEMENTED)` (R280). -/
def notImplemented (s : State) : State := errorResponse .notImplemented s

/-- WRITEABORT (R281). -/
def execWriteAbort (s : State) : Host.Outcome State Fault Refusal := .next (notImplemented s)

/-- DELAY: `delay_microseconds` is not called (R282). -/
def execDelay (s : State) : Host.Outcome State Fault Refusal := .next (notImplemented s)

/-- RESETTARGET: `RST` is not written (R284). -/
def execResetTarget (s : State) : Host.Outcome State Fault Refusal := .next (notImplemented s)

/-- SWJPINS: no line is driven or sampled (R285). -/
def execSwjPins (s : State) : Host.Outcome State Fault Refusal := .next (notImplemented s)

/-- SWJCLOCK: the half-period is not changed (R286). -/
def execSwjClock (s : State) : Host.Outcome State Fault Refusal := .next (notImplemented s)

/-- SWDCFG: the turnaround is not changed (R287). -/
def execSwdCfg (s : State) : Host.Outcome State Fault Refusal := .next (notImplemented s)

/-- JTAGSEQ (R288). -/
def execJtagSeq (s : State) : Host.Outcome State Fault Refusal := .next (notImplemented s)

/-- JTAGCFG (R289). -/
def execJtagCfg (s : State) : Host.Outcome State Fault Refusal := .next (notImplemented s)

/-- JTAGIDCODE (R290). -/
def execJtagIdcode (s : State) : Host.Outcome State Fault Refusal := .next (notImplemented s)

/-- UNKNOWN, the default handler: `raise ErrorResponse(UNKNOWN_OPCODE)` (42_dap_dispatch.md R185). -/
def execUnknown (_op : Byte) (s : State) : Host.Outcome State Fault Refusal := .next (errorResponse .unknownOpcode s)

end Sys2Proof.Machine
end

