-- ==== Sys2Proof/Machine/Dispatch.lean ====
section
/-! DEFINITION. Dispatch: one arm for each constructor of `Instr`. -/

namespace Sys2Proof.Machine

def exec (i : Instr) (s : State) : Host.Outcome State Fault Refusal :=
  match i with
  | .info id => Sys2Proof.Machine.execInfo id s
  | .hostStatus t st => Sys2Proof.Machine.execHostStatus t st s
  | .connect port => Sys2Proof.Machine.execConnect port s
  | .disconnect => Sys2Proof.Machine.execDisconnect s
  | .xferCfg idle wait matched => Sys2Proof.Machine.execXferCfg idle wait matched s
  | .xfer rq operand => Sys2Proof.Machine.execXfer rq operand s
  | .xferBlk rq count data => Sys2Proof.Machine.execXferBlk rq count data s
  | .xferAbort => Sys2Proof.Machine.execXferAbort s
  | .swjSeq n data => Sys2Proof.Machine.execSwjSeq n data s
  | .writeAbort => Sys2Proof.Machine.execWriteAbort s
  | .delay => Sys2Proof.Machine.execDelay s
  | .resetTarget => Sys2Proof.Machine.execResetTarget s
  | .swjPins => Sys2Proof.Machine.execSwjPins s
  | .swjClock => Sys2Proof.Machine.execSwjClock s
  | .swdCfg => Sys2Proof.Machine.execSwdCfg s
  | .jtagSeq => Sys2Proof.Machine.execJtagSeq s
  | .jtagCfg => Sys2Proof.Machine.execJtagCfg s
  | .jtagIdcode => Sys2Proof.Machine.execJtagIdcode s
  | .unknown op => Sys2Proof.Machine.execUnknown op s
  | .swdHdr port direction index => Sys2Proof.Machine.execSwdHdr port direction index s
  | .swdHdrDpW0 => Sys2Proof.Machine.execSwdHdrDpW0 s
  | .swdHdrApW0 => Sys2Proof.Machine.execSwdHdrApW0 s
  | .swdHdrDpR0 => Sys2Proof.Machine.execSwdHdrDpR0 s
  | .swdHdrApR0 => Sys2Proof.Machine.execSwdHdrApR0 s
  | .swdHdrDpW1 => Sys2Proof.Machine.execSwdHdrDpW1 s
  | .swdHdrApW1 => Sys2Proof.Machine.execSwdHdrApW1 s
  | .swdHdrDpR1 => Sys2Proof.Machine.execSwdHdrDpR1 s
  | .swdHdrApR1 => Sys2Proof.Machine.execSwdHdrApR1 s
  | .swdHdrDpW2 => Sys2Proof.Machine.execSwdHdrDpW2 s
  | .swdHdrApW2 => Sys2Proof.Machine.execSwdHdrApW2 s
  | .swdHdrDpR2 => Sys2Proof.Machine.execSwdHdrDpR2 s
  | .swdHdrApR2 => Sys2Proof.Machine.execSwdHdrApR2 s
  | .swdHdrDpW3 => Sys2Proof.Machine.execSwdHdrDpW3 s
  | .swdHdrApW3 => Sys2Proof.Machine.execSwdHdrApW3 s
  | .swdHdrDpR3 => Sys2Proof.Machine.execSwdHdrDpR3 s
  | .swdHdrApR3 => Sys2Proof.Machine.execSwdHdrApR3 s
  | .ackOk => Sys2Proof.Machine.execAckOk s
  | .ackWait => Sys2Proof.Machine.execAckWait s
  | .ackFault => Sys2Proof.Machine.execAckFault s
  | .ackInvalid0 => Sys2Proof.Machine.execAckInvalid0 s
  | .ackInvalid3 => Sys2Proof.Machine.execAckInvalid3 s
  | .ackInvalid5 => Sys2Proof.Machine.execAckInvalid5 s
  | .ackInvalid6 => Sys2Proof.Machine.execAckInvalid6 s
  | .ackInvalid7 => Sys2Proof.Machine.execAckInvalid7 s

end Sys2Proof.Machine
end

