-- ==== Sys2Proof/Machine/Fsm.lean ====
section
/-! DEFINITION. The bit-banging state machine (41_swd_transfer.md R150): the same operations as Engine.lean, one SWD
clock cycle a step. `enter` is R150's: the entry action, `CNT <- 0`, and the exit at once when the phase has length 0.
Phases are listed from the last to the first, so that each one's exit names phases already defined. -/

namespace Sys2Proof.Machine

/-- `enter(S)`'s common part: the state, and `CNT <- 0`. -/
def enterPhase (f : Fsm) (s : State) : State := { s with fsm := f, cnt := 0 }

/-- The exit of `IDLEC`: the result by direction and `PERR`. -/
def exitIdle (s : State) : State :=
  match s.req.direction with
  | .write => finishTransfer writeResult s
  | .read => finishTransfer (readResult s.perr s.shift) s

/-- `enter(IDLEC)`: "if `DIR = output` and `CFG.idle_cycles > 0`: `set_data(0)`". -/
def enterIdle (s : State) : State :=
  if s.cfg.idleCycles = 0 then exitIdle (enterPhase .idlec s)
  else if s.dir = .output then setData false (enterPhase .idlec s)
  else enterPhase .idlec s

/-- `enter(WPAR)`. -/
def enterWriteParity (s : State) : State := enterPhase .wpar s

/-- `enter(WDATA)`: the line is taken, `SHIFT <- REQ.value`, `PAR <- 0`. -/
def enterWriteData (s : State) : State :=
  { setDirection .output (enterPhase .wdata s) with shift := s.req.value, par := false }

/-- The exit of `TRN2`, by `ACK` and the direction. -/
def exitTurn2 (s : State) : State :=
  if s.ack ≠ ackOk then finishTransfer (ackResult s.ack) s
  else
    match s.req.direction with
    | .write => enterWriteData s
    | .read => enterIdle s

/-- `enter(TRN2)`. -/
def enterTurn2 (trn : Nat) (s : State) : State :=
  if trn = 0 then exitTurn2 (enterPhase .trn2 s) else enterPhase .trn2 s

/-- `enter(RPAR)`. -/
def enterReadParity (s : State) : State := enterPhase .rpar s

/-- `enter(RDATA)`: `PAR <- 0`. -/
def enterReadData (s : State) : State := { enterPhase .rdata s with par := false }

/-- The exit of `ACKP`: a read's data phase, or `TRN2`. -/
def exitAck (trn : Nat) (s : State) : State :=
  if s.ack = ackOk ∧ s.req.direction = .read then enterReadData s else enterTurn2 trn s

/-- `enter(ACKP)`. -/
def enterAck (s : State) : State := enterPhase .ackp s

/-- `enter(TRN1)`: the line is released, even when there is no turnaround cycle. -/
def enterTurn1 (trn : Nat) (s : State) : State :=
  if trn = 0 then enterAck (setDirection .input (enterPhase .trn1 s))
  else setDirection .input (enterPhase .trn1 s)

/-- `enter(HDR)`: the line is taken. -/
def enterHeader (s : State) : State := setDirection .output (enterPhase .hdr s)

/-- `enter(SEQ)`. -/
def enterSequence (s : State) : State :=
  if s.seqCount = 0 then finishSequence (setDirection .output (enterPhase .seq s))
  else setDirection .output (enterPhase .seq s)

/-- `IDLE` on `execute_transfer`: latch `REQ`, compute `HDR`, `PERR <- 0`, `enter(HDR)`. -/
def startTransfer (req : TransferRequest) (s : State) : State := enterHeader (latchRequest req s)

/-- `IDLE` on `generate_sequence`: `enter(SEQ)`. -/
def startSequence (bitCount : BitVec 32) (bits : List Byte) (s : State) : State :=
  enterSequence (latchSequence bitCount bits s)

/-- The lengths of the phases (R150). -/
def phaseLength (trn : Nat) (s : State) : Nat :=
  match s.fsm with
  | .idle => 0
  | .hdr => 8
  | .trn1 => trn
  | .ackp => 3
  | .trn2 => trn
  | .rdata => 32
  | .rpar => 1
  | .wdata => 32
  | .wpar => 1
  | .idlec => s.cfg.idleCycles.toNat
  | .seq => s.seqCount.toNat

/-- "the clock cycle made at each step". -/
def phaseCycle (s : State) : State :=
  match s.fsm with
  | .idle => s
  | .hdr => driveHeaderBit s.cnt s
  | .trn1 => turnCycle s
  | .ackp => sampleAckBit s.cnt s
  | .trn2 => turnCycle s
  | .rdata => sampleDataBit s.cnt s
  | .rpar => sampleParityBit s
  | .wdata => driveDataBit s.cnt s
  | .wpar => driveParityBit s
  | .idlec => turnCycle s
  | .seq => driveSequenceBit s.cnt s

/-- "exit transition when `CNT` reaches `len`". -/
def phaseExit (trn : Nat) (s : State) : State :=
  match s.fsm with
  | .idle => s
  | .hdr => enterTurn1 trn s
  | .trn1 => enterAck s
  | .ackp => exitAck trn s
  | .trn2 => exitTurn2 s
  | .rdata => enterReadParity s
  | .rpar => enterTurn2 trn s
  | .wdata => enterWriteParity s
  | .wpar => enterIdle s
  | .idlec => exitIdle s
  | .seq => finishSequence s

/-- `CNT <- CNT + 1`. -/
def countCycle (s : State) : State := { s with cnt := s.cnt + 1 }

/-- One step of the machine: the phase's clock cycle, `CNT <- CNT + 1`, and the exit when `CNT` has reached the length
of the phase. -/
def clock (trn : Nat) (s : State) : State :=
  let s' := countCycle (phaseCycle s)
  if s'.cnt = phaseLength trn s' then phaseExit trn s' else s'

/-- A step of the machine in a phase. A counter that is not below the length of its phase, or a sequence bit that does
not exist, has no meaning (log 18). -/
def clockStep (trn : Nat) (s : State) : Host.Outcome State Fault Refusal :=
  if s.cnt < phaseLength trn s then
    if s.fsm = .seq ∧ s.seqBits.length ≤ s.cnt / 8 then .fault .sequenceBitMissing
    else .next (clock trn s)
  else .fault .counterPastPhase

end Sys2Proof.Machine
end

