-- ==== Sys2Proof/Machine/Fetch.lean ====
section
/-! DEFINITION. Where the next instruction comes from (log 9): a request packet from the host (42_dap_dispatch.md R193), a
header or a request at the engine's own entry (60_exceptions.md R333), the acknowledgement in `ACK`. -/

namespace Sys2Proof.Machine

/-- The cause label of a packet the dispatcher rejects (60_exceptions.md R301). Only the first two kinds of decoding
error arise from a packet. -/
def packetCause : DecodeError → ErrorCause
  | .badLength => .badLength
  | .truncated => .truncated
  | .notHeader => .truncated
  | .headerParity => .truncated
  | .notAck => .truncated

/-- The instruction of the request in `REQ_BUF`. -/
def State.fetchPacket (s : State) : Except DecodeError Instr := decodePacket s.reqLen s.requestBytes

/-- `process_command` on the request that was accepted (42_dap_dispatch.md R193): decode, run the one handler or take
the `ErrorResponse`, and return to the host. -/
def processCommand (s : State) : Host.Outcome State Fault Refusal :=
  match s.fetchPacket with
  | .error e => .next (returnToHost (errorResponse (packetCause e) s))
  | .ok i =>
    match exec i s with
    | .next t => .next (returnToHost t)
    | .fault f => .fault f
    | .refused r => .refused r

/-- The operand of a header taken at the engine's own entry. -/
def setRequestValue (value : Word) (s : State) : State := { s with req := { s.req with value := value } }

/-- What an idle block does with the first of its inputs; with none it waits (10_state.md R37, 60_exceptions.md R337). -/
def takeInput (s : State) : Host.Outcome State Fault Refusal :=
  match s.inputs with
  | [] => .next s
  | .packet bytes :: rest => processCommand (acceptPacket bytes rest s)
  | .header w value :: rest =>
    match decodeHeader w with
    | .ok i => exec i (setRequestValue value { s with inputs := rest })
    | .error _ => .refused .notAHeader
  | .request req :: rest =>
    exec (.swdHdr req.port req.direction req.registerIndex) (setRequestValue req.value { s with inputs := rest })
  | .clockedTransfer req :: rest => .next (startTransfer req { s with inputs := rest })
  | .clockedSequence bitCount bits :: rest =>
    if sequenceFits bitCount bits then .next (startSequence bitCount bits { s with inputs := rest })
    else .refused .shortSequence

/-- Whether the engine stands at a complete acknowledgement, which is then the instruction to run (log 14). -/
def State.atAck (s : State) : Bool := s.fsm = .ackp && s.cnt = 3

/-- A word of the opcode table placed where the next step fetches it (log 10, 12). DESIGN CHOICE (log 14): an
acknowledgement so placed leaves `DIR` as it is. The precondition `DIR = input` of `read_bit` (40_pin_primitive.md R113) may
then be broken in the data phase it opens; the sample is the target's answer all the same. -/
def placeTableWord (nbits w : Nat) (s : State) : State :=
  match tablePort nbits w with
  | .packet => { s with fsm := .idle, busy := false, inputs := .packet (tableBytes nbits w) :: s.inputs }
  | .header =>
    { s with
      fsm := .idle, busy := false, inputs := .header (BitVec.ofNat 8 (w % 2 ^ nbits)) s.req.value :: s.inputs }
  | .ack => { s with fsm := .ackp, cnt := 3, ack := BitVec.ofNat 3 (w % 8) }

end Sys2Proof.Machine
end

