-- ==== Sys2Proof/Machine/Step.lean ====
section
/-! DEFINITION. One step of the machine (log 9): with the engine idle, the next input, whole; at a complete
acknowledgement, the acknowledgement; in any other phase of the engine, one clock cycle (10_state.md R23). -/

namespace Sys2Proof.Machine

def step (s : State) : Host.Outcome State Fault Refusal :=
  if s.fsm = .idle then
    if s.busy then .refused .commandInProgress else takeInput s
  else if s.atAck then exec (decodeAck s.ack) s
  else clockStep Config.trnCycles s

/-- The state with one word of the opcode table placed where `step` fetches its next instruction. -/
def State.withFetchWord (s : State) (nbits w : Nat) : State := placeTableWord nbits w s

end Sys2Proof.Machine
end

