-- ==== Sys2Proof/Machine/Wire.lean ====
section
/-! DEFINITION. The wire trace (40_pin_primitive.md R116): one symbol for each primitive call and each direction switch,
the pin events each stands for, the wire trace of an attempt and of a raw sequence, and the count of clock cycles. The
step never reads any of this; claims are stated in it. -/

namespace Sys2Proof.Machine

/-- A symbol of the wire trace (R116). -/
inductive WireSymbol where
  /-- `>out` -/
  | out
  /-- `>in` -/
  | rel
  /-- `W0`, `W1` -/
  | w (b : Bool)
  /-- `R0`, `R1` -/
  | r (b : Bool)
  /-- `Z` -/
  | z
  /-- `set_data(0)` before the idle cycles of a write: the one pin call without a symbol (41_swd_transfer.md R141) -/
  | low
deriving DecidableEq, Repr

/-- The pin events a symbol stands for, in order (R112 to R114, R116). -/
def WireSymbol.events : WireSymbol → List PinEvent
  | .out => [.setDirection .output]
  | .rel => [.setDirection .input]
  | .w b => [.setData b, .setClock false, .delay, .setClock true, .delay]
  | .r b => [.setClock false, .delay, .getData b, .setClock true, .delay]
  | .z => [.setClock false, .delay, .setClock true, .delay]
  | .low => [.setData false]

/-- The pin events of a wire trace, in order. -/
def wireEvents (ws : List WireSymbol) : List PinEvent := ws.flatMap WireSymbol.events

/-- The history after the events of a wire trace: newest first. -/
def afterWire (ws : List WireSymbol) (trace : List PinEvent) : List PinEvent := (wireEvents ws).reverse ++ trace

/-- The bits of a value in wire order, least significant first (20_memory.md R48). -/
def wireBits {w : Nat} (v : BitVec w) : List Bool := (List.range w).map v.getLsbD

/-- The answers of a target to one attempt's three acknowledgement bits (30_encoding.md R75). -/
def ackAnswer (a : BitVec 3) : List Bool := wireBits a

/-- The answers of a target that acknowledges OK and drives a value and a parity bit (30_encoding.md R79). -/
def readAnswer (v : Word) (parityBit : Bool) : List Bool := ackAnswer ackOk ++ wireBits v ++ [parityBit]

/-- The wire trace of a header, the release and the acknowledgement (41_swd_transfer.md R133, R135). -/
def headerWire (trn : Nat) (req : TransferRequest) (a : BitVec 3) : List WireSymbol :=
  .out :: (wireBits (headerOf req)).map .w ++ .rel :: List.replicate trn .z ++ (wireBits a).map .r

/-- The wire trace of an attempt without a data phase (R136). -/
def noDataWire (trn : Nat) (req : TransferRequest) (a : BitVec 3) : List WireSymbol :=
  headerWire trn req a ++ List.replicate trn .z

/-- The wire trace of an acknowledged read (R137, R141). -/
def readWire (trn idle : Nat) (req : TransferRequest) (v : Word) (parityBit : Bool) : List WireSymbol :=
  headerWire trn req ackOk ++ (wireBits v).map .r ++ .r parityBit :: List.replicate trn .z ++ List.replicate idle .z

/-- The wire trace of an acknowledged write (R139, R141). -/
def writeWire (trn idle : Nat) (req : TransferRequest) : List WireSymbol :=
  headerWire trn req ackOk ++ List.replicate trn .z ++ .out :: (wireBits req.value).map .w
    ++ .w (parity req.value) :: (if idle = 0 then [] else .low :: List.replicate idle .z)

/-- The wire trace of a raw sequence (R145). -/
def sequenceWire (bitCount : Nat) (bits : List Byte) : List WireSymbol :=
  .out :: (List.range bitCount).map fun k => .w (sequenceBit bits k)

/-- The clock cycles of a history: one rising edge each (R111, R116). -/
def clockCycles (trace : List PinEvent) : Nat := trace.countP (· = .setClock true)

/-- The time a history took as far as the delays go: each lasts `HALF_PERIOD_US` (70_reset_and_hazards.md R361). -/
def delayedMicroseconds (trace : List PinEvent) : Nat := trace.countP (· = .delay) * Config.halfPeriodUs

end Sys2Proof.Machine
end

