-- ==== Sys2Proof/Safety.lean ====
section
/-! DEFINITION. What counts as a safe state and a safe history, in the terms claims use: the invariant every step keeps,
and what an operation leaves unchanged. -/

namespace Sys2Proof.Machine

/-- The direction of the data line that a history leaves, newest event first; none before the first
`set_data_direction`. -/
def lineDirection : List PinEvent → Option LineDir
  | [] => none
  | .setDirection d :: _ => some d
  | _ :: older => lineDirection older

/-- Every sample was taken while the line was released, and every level was set while the engine drove it
(40_pin_primitive.md R119). -/
def disciplined : List PinEvent → Bool
  | [] => true
  | .getData _ :: older => lineDirection older == some .input && disciplined older
  | .setData _ :: older => lineDirection older == some .output && disciplined older
  | _ :: older => disciplined older

/-- The direction the line has throughout a phase of the engine (41_swd_transfer.md R150); the idle cycles and `IDLE`
have either. -/
def phaseDirection : Fsm → Option LineDir
  | .hdr | .wdata | .wpar | .seq => some .output
  | .trn1 | .ackp | .trn2 | .rdata | .rpar => some .input
  | .idle | .idlec => none

/-- The line is as the phase needs it, was at every sample and every set level of the history, and `DIR` is the direction
the history leaves (10_state.md R16). -/
def LineInv (s : State) : Prop :=
  disciplined s.trace = true ∧ (∀ d, phaseDirection s.fsm = some d → lineDirection s.trace = some d) ∧
    ∀ d, lineDirection s.trace = some d → s.dir = d

/-- The clock rests high from the first clock event on (40_pin_primitive.md R115, 70_reset_and_hazards.md R342). -/
def ClockInv (s : State) : Prop := (∃ l, PinEvent.setClock l ∈ s.trace) → s.clk = true

/-- A phase in progress has cycles left, or stands at a complete acknowledgement; a sequence has all its bits
(41_swd_transfer.md R146, R150). -/
def PhaseInv (s : State) : Prop :=
  s.fsm = .idle ∨
    ((s.cnt < phaseLength Config.trnCycles s ∨ s.atAck = true) ∧
      (s.fsm = .seq → sequenceFits s.seqCount s.seqBits = true))

/-- The buffers are in their canonical form and the response lies inside its buffer (20_memory.md R41, R42,
42_dap_dispatch.md R189); no command is in progress between steps (10_state.md R24). -/
def BufferInv (s : State) : Prop :=
  Memory.wf s.reqBuf = true ∧ Memory.wf s.respBuf = true ∧ s.respLen ≤ Config.respCap ∧ s.busy = false

/-- The invariant of the machine. -/
structure Inv (s : State) : Prop where
  line : LineInv s
  clock : ClockInv s
  phase : PhaseInv s
  buffer : BufferInv s

/-- What an operation of the engine leaves unchanged (10_state.md R38): the configuration, the flag, the reset line, the
buffers, the dispatcher's registers, the host's side. -/
structure EngineFrame (s t : State) : Prop where
  cfg : t.cfg = s.cfg
  connected : t.connected = s.connected
  rst : t.rst = s.rst
  busy : t.busy = s.busy
  rp : t.rp = s.rp
  wp : t.wp = s.wp
  doneCount : t.doneCount = s.doneCount
  reqBuf : t.reqBuf = s.reqBuf
  reqLen : t.reqLen = s.reqLen
  respBuf : t.respBuf = s.respBuf
  respLen : t.respLen = s.respLen
  okOut : t.okOut = s.okOut
  cause : t.cause = s.cause
  inputs : t.inputs = s.inputs
  outbox : t.outbox = s.outbox

/-- What a command leaves unchanged whatever it is (10_state.md R38, R39, 40_pin_primitive.md R117): the reset line, the
request, the host's side. -/
structure CommandFrame (s t : State) : Prop where
  rst : t.rst = s.rst
  reqBuf : t.reqBuf = s.reqBuf
  reqLen : t.reqLen = s.reqLen
  inputs : t.inputs = s.inputs
  outbox : t.outbox = s.outbox

/-- What a command that makes no pin call leaves unchanged besides (43_dap_config_info.md R225): the pins, the engine's
registers, the wire. -/
structure PinFrame (s t : State) : Prop where
  dir : t.dir = s.dir
  clk : t.clk = s.clk
  dout : t.dout = s.dout
  req : t.req = s.req
  res : t.res = s.res
  hdr : t.hdr = s.hdr
  ack : t.ack = s.ack
  shift : t.shift = s.shift
  par : t.par = s.par
  perr : t.perr = s.perr
  cnt : t.cnt = s.cnt
  fsm : t.fsm = s.fsm
  seqCount : t.seqCount = s.seqCount
  seqBits : t.seqBits = s.seqBits
  retryCount : t.retryCount = s.retryCount
  doneCount : t.doneCount = s.doneCount
  trace : t.trace = s.trace
  samples : t.samples = s.samples

/-- A run of the FSM, one clock cycle a time, that stops at `IDLE`. -/
def runClock (trn : Nat) : Nat → State → State
  | 0, s => s
  | n + 1, s => if s.fsm = .idle then s else runClock trn n (clock trn s)

/-- The levels set on the data line in a history, newest first. -/
def dataLevels (trace : List PinEvent) : List Bool :=
  trace.filterMap fun
    | .setData l => some l
    | _ => none

/-- `n` attempts of one request, one directly after another (44_dap_transfer.md R243). -/
def attempts (trn : Nat) (req : TransferRequest) : Nat → State → State
  | 0, s => s
  | n + 1, s => attempt trn req (attempts trn req n s)

/-! ### The states claims name: where an operation of the engine has ended, `CNT` is 0 (log 31) -/

/-- The state after an attempt answered `a`, not OK (41_swd_transfer.md R136). -/
def afterNoData (trn : Nat) (req : TransferRequest) (a : BitVec 3) (rest : List Bool) (s : State) : State :=
  { s with
    req := req, hdr := headerOf req, perr := false, dir := .input, clk := true, dout := true, ack := a
    samples := rest, trace := afterWire (noDataWire trn req a) s.trace
    res := ⟨a.setWidth 4, none⟩, fsm := .idle, cnt := 0 }

/-- The state after an attempt that was acknowledged OK and read the bits of `v` and the parity bit `pb` (R137, R138,
R141). -/
def afterRead (trn : Nat) (req : TransferRequest) (v : Word) (pb : Bool) (rest : List Bool) (s : State) : State :=
  { s with
    req := req, hdr := headerOf req, dir := .input, clk := true, dout := true, ack := 1, shift := v, par := parity v
    perr := pb ^^ parity v, samples := rest
    trace := afterWire (readWire trn s.cfg.idleCycles.toNat req v pb) s.trace
    res := if pb = parity v then ⟨1, some v⟩ else ⟨8, none⟩
    fsm := .idle, cnt := 0 }

/-- The state after an attempt that was acknowledged OK and wrote (R139, R141). -/
def afterWrite (trn : Nat) (req : TransferRequest) (rest : List Bool) (s : State) : State :=
  { s with
    req := req, hdr := headerOf req, perr := false, dir := .output, clk := true
    dout := if s.cfg.idleCycles = 0 then parity req.value else false
    ack := 1, shift := req.value, par := parity req.value, samples := rest
    trace := afterWire (writeWire trn s.cfg.idleCycles.toNat req) s.trace
    res := ⟨1, none⟩, fsm := .idle, cnt := 0 }

/-- The state after a raw sequence (R145, R146). -/
def afterSequence (bitCount : BitVec 32) (bits : List Byte) (s : State) : State :=
  { s with
    seqCount := bitCount, seqBits := bits, dir := .output
    clk := if bitCount = 0 then s.clk else true
    dout := if bitCount = 0 then s.dout else sequenceBit bits (bitCount.toNat - 1)
    trace := afterWire (sequenceWire bitCount.toNat bits) s.trace
    fsm := .idle, cnt := 0 }

/-- The state after a command that the dispatcher or its handler rejects (60_exceptions.md R310). -/
def afterRejection (cause : ErrorCause) (s : State) : State :=
  { s with respBuf := [(0, 0xFF)], respLen := 1, okOut := false, busy := false, cause := some cause }

/-- The answers of a target that is busy for `k` attempts. -/
def waits (k : Nat) : List Bool := (List.replicate k (ackAnswer ackWait)).flatten

/-- The answers to the sub-transfers of a block read, each busy for a while and then OK with a value and its parity. -/
def blockReadAnswers (vs : List (Nat × Word)) : List Bool :=
  vs.flatMap fun kv => waits kv.1 ++ readAnswer kv.2 (parity kv.2)

/-- The answers to the sub-transfers of a block write, each busy for a while and then OK. -/
def blockWriteAnswers (ks : List Nat) : List Bool := ks.flatMap fun k => waits k ++ ackAnswer ackOk

/-- A state in which the next step takes a packet. -/
def Ready (s : State) (bytes : List Byte) (rest : List Input) : Prop :=
  s.fsm = .idle ∧ s.busy = false ∧ s.inputs = .packet bytes :: rest

/-- The commands that make no pin call (43_dap_config_info.md R225, 45_dap_unimplemented.md R280, 42_dap_dispatch.md
R185). -/
def callsNoPin : Instr → Bool
  | .info _ => true
  | .hostStatus _ _ => true
  | .connect _ => true
  | .disconnect => true
  | .xferCfg _ _ _ => true
  | .xfer _ _ => false
  | .xferBlk _ _ _ => false
  | .xferAbort => true
  | .swjSeq _ _ => false
  | .writeAbort => true
  | .delay => true
  | .resetTarget => true
  | .swjPins => true
  | .swjClock => true
  | .swdCfg => true
  | .jtagSeq => true
  | .jtagCfg => true
  | .jtagIdcode => true
  | .unknown _ => true
  | .swdHdr _ _ _ => false
  | .swdHdrDpW0 => false
  | .swdHdrApW0 => false
  | .swdHdrDpR0 => false
  | .swdHdrApR0 => false
  | .swdHdrDpW1 => false
  | .swdHdrApW1 => false
  | .swdHdrDpR1 => false
  | .swdHdrApR1 => false
  | .swdHdrDpW2 => false
  | .swdHdrApW2 => false
  | .swdHdrDpR2 => false
  | .swdHdrApR2 => false
  | .swdHdrDpW3 => false
  | .swdHdrApW3 => false
  | .swdHdrDpR3 => false
  | .swdHdrApR3 => false
  | .ackOk => false
  | .ackWait => false
  | .ackFault => false
  | .ackInvalid0 => false
  | .ackInvalid3 => false
  | .ackInvalid5 => false
  | .ackInvalid6 => false
  | .ackInvalid7 => false

end Sys2Proof.Machine
end

