-- ==== Sys2Proof/Certificates/Slice0/Obligations.lean ====
section
/-! DEFINITION. The statements for the provers, from the numbered rules of spec/. Each docstring says what it formalises
and which of its clauses rest on a decision of the spec or a choice of the model. -/

open Sys2Proof Sys2Proof.Machine

/-- For every well-formed instruction, decoding its encoding at the place its word stands (a request packet, a
header, an acknowledgement) gives the instruction itself; the general header gives the one of the sixteen
headers with the same word (log 29, the model's choice). Every operand at every value is covered. The opcode
numbers and the layouts are the spec's own decisions D1, D11, D12, D15, D21. [30_encoding.md sections 1, 2, 7
and 8 (R70 to R93); 92_eei_decisions.md D1, D2, D3, D11, D12, D15, D21; notes/assumptions/29.md] -/
def Obligations.EncodeThenDecodeGivesTheInstruction : Prop :=
  ∀ i : Instr, i.wf = true → decodeAt i.wordPort (encode i) = .ok i.canonical

/-- Whatever instruction the dispatcher's decoder reads from a packet is a well-formed DAP command whose encoding is
the beginning of the packet, byte for byte: no field is read from another place, and the bytes after it are
ignored. [30_encoding.md sections 5 and 8 (R83, R93, R95); 42_dap_dispatch.md R192] -/
def Obligations.DecodedPacketBeginsWithItsEncoding : Prop :=
  ∀ (bytes : List Byte) (i : Instr), decodePacket bytes.length bytes = .ok i →
    i.wf = true ∧ i.wordPort = .packet ∧ encode i <+: bytes

/-- One word of each family, written from the spec's tables, decodes to its instruction: Info, Connect,
TransferConfigure, Transfer, TransferBlock, SWJ_Sequence, a class B opcode, an unknown opcode, two headers and
two acknowledgements. The opcode numbers are the spec's own decision D1, taken from ARM CMSIS-DAP (log 2,
PRESUMED); the bit orders and layouts are its decisions D2, D3, D4, D11, D12, D15, D17, D19 and D21.
[30_encoding.md R74, R76, R90, R92, R93, R96; 95_test_vectors.md sections 2.1, 2.5, 2.6, 2.7, 2.9, 2.10;
92_eei_decisions.md D1, D2, D3, D4, D11, D12, D15, D17, D19, D21; notes/assumptions/2.md] -/
def Obligations.WordsWrittenOutDecode : Prop :=
  decodePacket 2 [0x00, 0x04] = .ok (.info 0x04) ∧
  decodePacket 2 [0x02, 0x01] = .ok (.connect 0x01) ∧
  decodePacket 6 [0x04, 0x01, 0x34, 0x12, 0x78, 0x56] = .ok (.xferCfg 1 0x1234 0x5678) ∧
  decodePacket 6 [0x05, 0x05, 0x78, 0x56, 0x34, 0x12] = .ok (.xfer 0x05 0x12345678) ∧
  decodePacket 4 [0x06, 0x0F, 0x04, 0x00] = .ok (.xferBlk 0x0F 4 []) ∧
  decodePacket 8 [0x06, 0x0D, 0x01, 0x00, 0xEF, 0xBE, 0xAD, 0xDE] =
    .ok (.xferBlk 0x0D 1 [0xEF, 0xBE, 0xAD, 0xDE]) ∧
  decodePacket 4 [0x12, 0x10, 0x9E, 0xE7] = .ok (.swjSeq 0x10 [0x9E, 0xE7]) ∧
  decodePacket 5 [0x11, 0x40, 0x42, 0x0F, 0x00] = .ok .swjClock ∧
  decodePacket 2 [0x7F, 0x01] = .ok (.unknown 0x7F) ∧
  decodeHeader 0xA5 = .ok .swdHdrDpR0 ∧ decodeHeader 0x8B = .ok .swdHdrApW1 ∧
  decodeAck 1 = .ackOk ∧ decodeAck 6 = .ackInvalid6

/-- A byte decodes as a request header exactly when it is the header of some port, direction and register index, and
it then decodes to the header instruction of these; and the header of a transfer request byte is `0x81 | rq[3:0]
<< 1 | parity4(rq[3:0]) << 5`. [30_encoding.md R74, R81; 92_eei_decisions.md D2, D3, D11] -/
def Obligations.SixteenHeadersAndNoOther : Prop :=
  (∀ w : Byte, (∃ i, decodeHeader w = .ok i) ↔ ∃ p d k, w = headerWord p d k) ∧
  (∀ p d k, decodeHeader (headerWord p d k) = .ok (headerInstr p d k)) ∧
  (∀ (rq : Byte) (v : Word), headerOf (requestOf rq v) =
    0x81#8 ||| (rq &&& 0x0F#8) <<< 1 ||| (BitVec.ofBool (parity (rq.setWidth 4))).setWidth 8 <<< 5)

/-- Whatever the request, the configuration and the state, the header an attempt drives has start bit 1, stop bit 0,
park bit 1 and a parity bit that is the exclusive-or of APnDP, RnW and the two address bits (the start bit not
included), and its eight bits are driven bit 0 first, after the line is taken, so the 6th cycle drives that
parity bit. The places of the fields in the header are the spec's own decision D2, the direction switch at the
entry its decision D8, and the pin events of a cycle its decision D7 (log 26, PRESUMED). [30_encoding.md R70,
R71, R73; 41_swd_transfer.md R133; 92_eei_decisions.md D2, D7, D8; notes/assumptions/26.md] -/
def Obligations.HeaderFramingAndParityBits : Prop :=
  ∀ (trn : Nat) (req : TransferRequest) (s : State),
    let h := (executeTransfer trn req s).hdr
    h.getLsbD 0 = true ∧ h.getLsbD 6 = false ∧ h.getLsbD 7 = true ∧
    h.getLsbD 5 = (req.port.bit ^^ req.direction.bit ^^ req.registerIndex.getLsbD 0 ^^ req.registerIndex.getLsbD 1) ∧
    (headerPhase (latchRequest req s)).trace = afterWire (.out :: (wireBits h).map .w) s.trace

/-- For a request of at most 64 bytes held in the request buffer: a one-byte read is the byte at its offset; a
two-byte and a four-byte read have the byte at the lowest offset as the least significant; and a read that
reaches past the request length has no value. [R44] -/
def Obligations.RequestFieldsAreLittleEndianAndBounded : Prop :=
  ∀ (bytes : List Byte) (rest : List Input) (s : State), bytes.length ≤ 64 →
    let t := acceptPacket bytes rest s
    (∀ off b, bytes[off]? = some b → t.reqRead off 1 = some b.toNat) ∧
    (∀ off b0 b1, bytes[off]? = some b0 → bytes[off + 1]? = some b1 →
      t.reqRead off 2 = some (b0.toNat + 256 * b1.toNat)) ∧
    (∀ off b0 b1 b2 b3, bytes[off]? = some b0 → bytes[off + 1]? = some b1 → bytes[off + 2]? = some b2 →
      bytes[off + 3]? = some b3 →
      t.reqRead off 4 = some (b0.toNat + 256 * b1.toNat + 65536 * b2.toNat + 16777216 * b3.toNat)) ∧
    (∀ off n, bytes.length < off + n → t.reqRead off n = none)

/-- Inside the 64-byte buffer, `RespWrite(off, n, v)` stores byte `i` of `v` at `off + i` for `i < n`, leaves every
other response byte and every other part of the state as it was, and keeps the buffer's canonical form. The byte
order of response fields is the spec's own decision D12. [20_memory.md sections 1 and 2 (R42, R45);
92_eei_decisions.md D12] -/
def Obligations.ResponseFieldsAreLittleEndian : Prop :=
  ∀ (s : State) (off n v : Nat), off + n ≤ 64 →
    (∀ k, Memory.read (s.respWrite off n v).respBuf k =
      if off ≤ k ∧ k < off + n then some (BitVec.ofNat 8 (v / 256 ^ (k - off))) else Memory.read s.respBuf k) ∧
    (Memory.wf s.respBuf = true → Memory.wf (s.respWrite off n v).respBuf = true) ∧
    s.respWrite off n v = { s with respBuf := (s.respWrite off n v).respBuf }

/-- For every 32-bit value, the value's bits in wire order followed by its parity bit hold an even number of ones;
and flipping one bit of the value flips its parity. [30_encoding.md section 3 (R79); 00_scope.md R6;
41_swd_transfer.md R153] -/
def Obligations.ParityBitMakesTheOnesEven : Prop :=
  (∀ v : Word, (wireBits v ++ [parity v]).countP id % 2 = 0) ∧
  (∀ (v : Word) (k : Nat), k < 32 → parity (v ^^^ 1#32 <<< k) = !parity v)

/-- The bits of a 32-bit value in wire order are the bits of the raw sequence made of its four bytes, least
significant byte first. [20_memory.md section 3 (R48, R49) and the note after R49] -/
def Obligations.OperandAndRawSequenceBitsAgree : Prop :=
  ∀ v : Word, (List.range 32).map (sequenceBit (leBytes 4 v.toNat)) = wireBits v

/-- With the engine idle and no command in progress, when the packet at the head of the inputs decodes to an
instruction, the step is that instruction's execution on the state with the request snapshot taken and BUSY set,
followed by the return to the host (BUSY cleared, the response delivered). One step is one whole command: log 9,
the model's choice. [42_dap_dispatch.md R184, R193; 20_memory.md R61; notes/assumptions/9.md] -/
def Obligations.StepRunsTheDecodedPacket : Prop :=
  ∀ (s : State) (bytes : List Byte) (rest : List Input) (i : Instr), Ready s bytes rest →
    decodePacket bytes.length (bytes.take 64) = .ok i →
    step s =
      match exec i (acceptPacket bytes rest s) with
      | .next t => .next (returnToHost t)
      | .fault f => .fault f
      | .refused r => .refused r

/-- With the engine idle and no command in progress: a header word at the head of the inputs that decodes to an
instruction is executed with its operand in REQ.value; a transfer request is executed as the general header;
with no input the state does not change. With the engine at a complete acknowledgement (FSM = ACKP, CNT = 3),
the step executes the acknowledgement in ACK. These entries are the model's choice (logs 11 and 14). That a step
of an idle block without input answers the same state is the model's choice too (log 24). [60_exceptions.md
R333, R337; 41_swd_transfer.md R150, R152; 70_reset_and_hazards.md R344; notes/assumptions/11.md;
notes/assumptions/14.md; notes/assumptions/24.md] -/
def Obligations.StepRunsTheHeaderOrAcknowledgement : Prop :=
  (∀ (s : State) (w : Byte) (v : Word) (rest : List Input) (i : Instr), s.fsm = .idle → s.busy = false →
    s.inputs = .header w v :: rest → decodeHeader w = .ok i →
    step s = exec i { s with inputs := rest, req := { s.req with value := v } }) ∧
  (∀ (s : State) (r : TransferRequest) (rest : List Input), s.fsm = .idle → s.busy = false →
    s.inputs = .request r :: rest →
    step s = exec (.swdHdr r.port r.direction r.registerIndex)
      { s with inputs := rest, req := { s.req with value := r.value } }) ∧
  (∀ s : State, s.fsm = .idle → s.busy = false → s.inputs = [] → step s = .next s) ∧
  (∀ s : State, s.fsm = .ackp → s.cnt = 3 → step s = exec (decodeAck s.ack) s)

/-- For each class A opcode with its minimum length (Info 2, HostStatus 3, Connect 2, Disconnect 1,
TransferConfigure 6, Transfer 6, TransferBlock 4, TransferAbort 1, SWJ_Sequence 2): a non-empty request below
the minimum is answered with the one byte 0xFF, OK_OUT 0, under the label TRUNCATED, and changes no
configuration, no flag and no pin; a request of at least the minimum and at most 64 bytes decodes to the
instruction of that opcode, whose encoding begins the request, and the step is that instruction's execution,
which answers a next state, followed by the return to the host. The opcode numbers are the spec's own decision
D1 (log 2, PRESUMED), the acceptance of longer requests its decision D23 (R192); the cause label is the model's
record of the spec's own label (log 17). [42_dap_dispatch.md R183, R184, R192; 92_eei_decisions.md D1, D23;
notes/assumptions/2.md; notes/assumptions/17.md] -/
def Obligations.ShortRequestIsAnsweredWithTheSentinel : Prop :=
  ∀ (s : State) (bytes : List Byte) (rest : List Input) (op : Byte) (n : Nat), Ready s bytes rest →
    (op, n) ∈ ([(0x00, 2), (0x01, 3), (0x02, 2), (0x03, 1), (0x04, 6), (0x05, 6), (0x06, 4), (0x07, 1), (0x12, 2)] :
      List (Byte × Nat)) →
    bytes.head? = some op →
    (bytes.length < n →
      ∃ t, step s = .next t ∧ t.response = [0xFF] ∧ t.respLen = 1 ∧ t.okOut = false ∧
        t.cause = some .truncated ∧ t.outbox = s.outbox ++ [⟨[0xFF], false⟩] ∧ t.cfg = s.cfg ∧ t.connected = s.connected ∧ PinFrame s t) ∧
    (n ≤ bytes.length → bytes.length ≤ 64 →
      ∃ i t, decodePacket bytes.length bytes = .ok i ∧ encode i <+: bytes ∧
        (op = 0x00 → ∃ id, i = .info id) ∧ (op = 0x01 → ∃ ty st, i = .hostStatus ty st) ∧
        (op = 0x02 → ∃ p, i = .connect p) ∧ (op = 0x03 → i = .disconnect) ∧
        (op = 0x04 → ∃ a b c, i = .xferCfg a b c) ∧ (op = 0x05 → ∃ rq v, i = .xfer rq v) ∧
        (op = 0x06 → ∃ rq c data, i = .xferBlk rq c data) ∧ (op = 0x07 → i = .xferAbort) ∧
        (op = 0x12 → ∃ m data, i = .swjSeq m data) ∧
        exec i (acceptPacket bytes rest s) = .next t ∧ step s = .next (returnToHost t))

/-- A request packet of length 0, or above 64, is answered with the one byte 0xFF and OK_OUT 0, under the label
BAD_LENGTH, whatever its bytes are; the configuration, the flag, the pins and the wire are unchanged. That a
zero-length request is answered is the spec's own decision D23. [42_dap_dispatch.md R181; 60_exceptions.md R304,
R305; 92_eei_decisions.md D23] -/
def Obligations.EmptyOrOversizedRequestIsRejected : Prop :=
  ∀ (s : State) (bytes : List Byte) (rest : List Input), Ready s bytes rest →
    (bytes.length = 0 ∨ 64 < bytes.length) →
    step s = .next (returnToHost (afterRejection .badLength (acceptPacket bytes rest s))) ∧
    (returnToHost (afterRejection .badLength (acceptPacket bytes rest s))).outbox = s.outbox ++ [⟨[0xFF], false⟩]

/-- For every table and identifier, Info's response is the opcode echo, one length byte that counts the value bytes,
and the value; RESP_LEN is 2 plus the value's length and at most 64; OK_OUT is 1; no configuration, flag, pin or
engine register changes. The instruction completes with the block's own table, which is a free value (log 7).
The layout is the spec's own decision D17. [43_dap_config_info.md R210, R212; 92_eei_decisions.md D17;
notes/assumptions/7.md] -/
def Obligations.InfoAnswersTheTableValue : Prop :=
  ∀ (table : Byte → Option Config.InfoValue) (id : Byte) (s : State),
    let t := infoCommand table id s
    let v := infoValue table id
    exec (.info id) s = .next (infoCommand Config.infoTable id s) ∧
    t.response = 0x00 :: BitVec.ofNat 8 v.length :: v ∧ t.respLen = 2 + v.length ∧ t.respLen ≤ 64 ∧
    t.okOut = true ∧ t.cause = none ∧ t.cfg = s.cfg ∧ t.connected = s.connected ∧ t.busy = s.busy ∧
    CommandFrame s t ∧ PinFrame s t

/-- For every table that has no entry for the identifier, the response of Info is the two bytes 0x00 0x00, RESP_LEN
is 2 and OK_OUT is 1; the response is not the sentinel. [R211] -/
def Obligations.UnknownInfoIdGivesAZeroLengthValue : Prop :=
  ∀ (table : Byte → Option Config.InfoValue) (id : Byte) (s : State), table id = none →
    (infoCommand table id s).response = [0x00, 0x00] ∧ (infoCommand table id s).respLen = 2 ∧
    (infoCommand table id s).okOut = true ∧ (infoCommand table id s).response ≠ [0xFF] ∧
    exec (.info id) s = .next (infoCommand Config.infoTable id s)

/-- Whatever its operands, HostStatus answers 0x01 0x00; TransferAbort answers the one byte 0x07. The whole next
state is given: only the response, the status output, the cause label and the dispatcher's cursors change. The
responses are the spec's own decision D20. The value of the request cursor rp after the command is the model's
deduction (log 21). [43_dap_config_info.md R214, R224; 92_eei_decisions.md D20; notes/assumptions/21.md] -/
def Obligations.HostStatusAndAbortOnlyAnswer : Prop :=
  (∀ (ty st : Byte) (s : State), exec (.hostStatus ty st) s = .next
    { s with respBuf := [(0, 0x01), (1, 0x00)], respLen := 2, okOut := true, cause := none, rp := 3, wp := 2 }) ∧
  (∀ s : State, exec .xferAbort s = .next
    { s with respBuf := [(0, 0x07)], respLen := 1, okOut := true, cause := none, rp := 1, wp := 1 })

/-- Connect with port 0 or 1 sets CONNECTED and answers 0x02 0x01; with any other port it clears CONNECTED and
answers 0x02 0x00, which is no error; Disconnect clears CONNECTED and answers 0x03 0x00. The whole next state is
given. The layouts are the spec's own decision D19. The value of the request cursor rp after the command is the
model's deduction (log 21). [43_dap_config_info.md R216, R218, R219; 92_eei_decisions.md D19;
notes/assumptions/21.md] -/
def Obligations.ConnectAndDisconnectWriteTheFlag : Prop :=
  (∀ (p : Byte) (s : State), (p = 0 ∨ p = 1) → exec (.connect p) s = .next
    { s with
      connected := true, respBuf := [(0, 0x02), (1, 0x01)], respLen := 2, okOut := true, cause := none
      rp := 2, wp := 2 }) ∧
  (∀ (p : Byte) (s : State), p ≠ 0 → p ≠ 1 → exec (.connect p) s = .next
    { s with
      connected := false, respBuf := [(0, 0x02), (1, 0x00)], respLen := 2, okOut := true, cause := none
      rp := 2, wp := 2 }) ∧
  (∀ s : State, exec .disconnect s = .next
    { s with
      connected := false, respBuf := [(0, 0x03), (1, 0x00)], respLen := 2, okOut := true, cause := none
      rp := 1, wp := 2 })

/-- A packet 0x04 with idle_cycles, wait_retry low and high byte, match_retry low and high byte, and anything after
them up to 64 bytes, decodes to TransferConfigure of those values (u16 little-endian); one with fewer than five
operand bytes is truncated; and TransferConfigure, whatever its operands, writes all three fields and answers
0x04 0x00 with OK_OUT 1, changing nothing else. The status byte 0x00 is the spec's own decision D18 and the
opcode number its decision D1 (log 2); the value of the request cursor rp after the command is the model's
deduction (log 21). [43_dap_config_info.md R220, R222; 42_dap_dispatch.md R192; 92_eei_decisions.md D1, D18,
D23; notes/assumptions/2.md; notes/assumptions/21.md] -/
def Obligations.TransferConfigureWritesAllThreeFields : Prop :=
  (∀ (i wl wh ml mh : Byte) (extra : List Byte), extra.length ≤ 58 →
    decodePacket (6 + extra.length) ([0x04, i, wl, wh, ml, mh] ++ extra) = .ok (.xferCfg i (wh ++ wl) (mh ++ ml))) ∧
  (∀ fields : List Byte, fields.length < 5 →
    decodePacket (fields.length + 1) (0x04 :: fields) = .error .truncated) ∧
  (∀ (i : BitVec 8) (w m : BitVec 16) (s : State), exec (.xferCfg i w m) s = .next
    { s with
      cfg := ⟨i, w, m⟩, respBuf := [(0, 0x04), (1, 0x00)], respLen := 2, okOut := true, cause := none
      rp := 6, wp := 2 })

/-- For each of the nine opcodes 0x08, 0x09, 0x0A, 0x10, 0x11, 0x13, 0x14, 0x15, 0x16: whatever follows the opcode,
the packet decodes to that command; and its execution gives the next state of a rejected command: response 0xFF,
RESP_LEN 1, OK_OUT 0, BUSY 0, the label NOT_IMPLEMENTED, and everything else unchanged. That they are answered
so is the spec's own decision D22. [45_dap_unimplemented.md R280 to R290; 42_dap_dispatch.md R186;
92_eei_decisions.md D22; notes/assumptions/20.md] -/
def Obligations.ClassBCommandsAreAnsweredNotImplemented : Prop :=
  ∀ (op : Byte) (i : Instr), (op, i) ∈ ([(0x08, .writeAbort), (0x09, .delay), (0x0A, .resetTarget), (0x10, .swjPins),
      (0x11, .swjClock), (0x13, .swdCfg), (0x14, .jtagSeq), (0x15, .jtagCfg), (0x16, .jtagIdcode)] :
      List (Byte × Instr)) →
    (∀ fields : List Byte, fields.length ≤ 63 → decodePacket (fields.length + 1) (op :: fields) = .ok i) ∧
    (∀ s : State, exec i s = .next (afterRejection .notImplemented s))

/-- For each of the 238 opcode bytes 0x0B to 0x0F and 0x17 to 0xFF: whatever follows the opcode (up to 64 bytes in
all), the packet decodes to the default handler's instruction; and its execution gives the next state of a
rejected command: response 0xFF, RESP_LEN 1, OK_OUT 0, and no other state changed, no pin call made. Which
opcode bytes are outside the table is R92's, on the numbers of the spec's own decision D1 (log 2, PRESUMED); the
cause label is a record nothing reads (log 17). [42_dap_dispatch.md R185; 30_encoding.md R92;
92_eei_decisions.md D1; notes/assumptions/2.md; notes/assumptions/17.md] -/
def Obligations.UnknownOpcodeFallsToTheDefaultHandler : Prop :=
  ∀ op : Byte, ((0x0B ≤ op.toNat ∧ op.toNat ≤ 0x0F) ∨ 0x17 ≤ op.toNat) →
    (∀ fields : List Byte, fields.length ≤ 63 →
      decodePacket (fields.length + 1) (op :: fields) = .ok (.unknown op)) ∧
    (∀ s : State, exec (.unknown op) s = .next (afterRejection .unknownOpcode s) ∧
      (afterRejection .unknownOpcode s).response = [0xFF])

/-- For every turnaround count, request, state and acknowledgement other than 1: the attempt drives the header,
samples the acknowledgement, makes the turnaround cycles and no idle cycle, leaves the line released, and
returns the sampled value with no register value. The whole next state is given, and the header instructions
(each of the sixteen, and the general one) complete with it. The entry switch of the line is the spec's own
decision D8 (R133) and the place of the turnaround its decision D6 (R140). That an instruction makes no
turnaround cycle (TRN_CYCLES = 0) is the default of the spec's decision D6 (log 1). That CNT is 0 once the
operation has ended is the model's choice (log 31). [41_swd_transfer.md R133, R136, R140; 92_eei_decisions.md
D6, D8; notes/assumptions/1.md; notes/assumptions/26.md; notes/assumptions/31.md] -/
def Obligations.AttemptNotAcknowledgedOkEndsAtOnce : Prop :=
  (∀ (trn : Nat) (req : TransferRequest) (s : State) (a : BitVec 3) (rest : List Bool),
    s.samples = ackAnswer a ++ rest → a ≠ 1 → executeTransfer trn req s = afterNoData trn req a rest s) ∧
  (∀ (p : Port) (d : Direction) (k : BitVec 2) (s : State) (a : BitVec 3) (rest : List Bool),
    s.samples = ackAnswer a ++ rest → a ≠ 1 →
    exec (headerInstr p d k) s = .next (afterNoData 0 ⟨p, d, k, s.req.value⟩ a rest s) ∧
    exec (.swdHdr p d k) s = .next (afterNoData 0 ⟨p, d, k, s.req.value⟩ a rest s))

/-- For every turnaround count, read request, state, value and parity bit: when the target answers OK, the bits of
the value (least significant first) and the parity bit, the attempt returns OK with the value if the parity bit
is the value's parity, and PROTOCOL_ERROR (8) with no value otherwise; the wire trace and the idle cycles do not
depend on which. The whole next state is given; the read headers complete with it. The places of turnaround and
idle cycles are the spec's own decisions D6 and D9. The entry switch of the line is its decision D8. That an
instruction makes no turnaround cycle (TRN_CYCLES = 0) is the default of the spec's decision D6 (log 1). That
CNT is 0 once the operation has ended is the model's choice (log 31). [41_swd_transfer.md R133, R137, R138,
R140, R141; 92_eei_decisions.md D6, D8, D9; notes/assumptions/1.md; notes/assumptions/26.md;
notes/assumptions/31.md] -/
def Obligations.AcknowledgedReadSamplesTheValue : Prop :=
  (∀ (trn : Nat) (req : TransferRequest) (s : State) (v : Word) (pb : Bool) (rest : List Bool),
    s.samples = readAnswer v pb ++ rest → req.direction = .read →
    executeTransfer trn req s = afterRead trn req v pb rest s) ∧
  (∀ (p : Port) (k : BitVec 2) (s : State) (v : Word) (pb : Bool) (rest : List Bool),
    s.samples = readAnswer v pb ++ rest →
    exec (headerInstr p .read k) s = .next (afterRead 0 ⟨p, .read, k, s.req.value⟩ v pb rest s) ∧
    exec (.swdHdr p .read k) s = .next (afterRead 0 ⟨p, .read, k, s.req.value⟩ v pb rest s))

/-- For every turnaround count, write request and state: when the target answers OK, the attempt takes the line,
drives the 32 bits of the value least significant first and then its parity bit, then, if there are idle cycles,
sets the line low and makes them; it returns OK and no value. The whole next state is given; the write headers
complete with it. The places of turnaround and idle cycles and the level during them are the spec's own
decisions D6 and D9. The entry switch of the line is its decision D8. That an instruction makes no turnaround
cycle (TRN_CYCLES = 0) is the default of the spec's decision D6 (log 1). That CNT is 0 once the operation has
ended is the model's choice (log 31). [41_swd_transfer.md R133, R139, R140, R141, R143; 92_eei_decisions.md D6,
D8, D9; notes/assumptions/1.md; notes/assumptions/26.md; notes/assumptions/31.md] -/
def Obligations.AcknowledgedWriteDrivesTheValue : Prop :=
  (∀ (trn : Nat) (req : TransferRequest) (s : State) (rest : List Bool),
    s.samples = ackAnswer 1 ++ rest → req.direction = .write →
    executeTransfer trn req s = afterWrite trn req rest s) ∧
  (∀ (p : Port) (k : BitVec 2) (s : State) (rest : List Bool), s.samples = ackAnswer 1 ++ rest →
    exec (headerInstr p .write k) s = .next (afterWrite 0 ⟨p, .write, k, s.req.value⟩ rest s) ∧
    exec (.swdHdr p .write k) s = .next (afterWrite 0 ⟨p, .write, k, s.req.value⟩ rest s))

/-- For WAIT (2), FAULT (4) and the invalid values 0, 3, 5, 6, 7: the acknowledgement instruction completes with ACK
holding the value, RES.ack the same number and no value, the engine idle, and nothing else changed (with no
turnaround cycle). That the invalid values are returned raw is the spec's own decision D5. That an
acknowledgement runs as an instruction of its own is the model's choice (log 14). That an instruction makes no
turnaround cycle (TRN_CYCLES = 0) is the default of the spec's decision D6 (log 1). That CNT is 0 once the
operation has ended is the model's choice (log 31). [30_encoding.md R76, R77, R78; 41_swd_transfer.md R136,
R140; 92_eei_decisions.md D5, D6; notes/assumptions/1.md; notes/assumptions/14.md; notes/assumptions/31.md] -/
def Obligations.AcknowledgementsOtherThanOkEndTheAttempt : Prop :=
  ∀ (i : Instr) (a : BitVec 3), (i, a) ∈ ([(.ackWait, 2), (.ackFault, 4), (.ackInvalid0, 0), (.ackInvalid3, 3),
      (.ackInvalid5, 5), (.ackInvalid6, 6), (.ackInvalid7, 7)] : List (Instr × BitVec 3)) →
    ∀ s : State, exec i s = .next { s with ack := a, res := ⟨a.setWidth 4, none⟩, fsm := .idle, cnt := 0 }

/-- The OK acknowledgement completes: for a latched read whose target drives the bits of a value and a parity bit,
with the value or PROTOCOL_ERROR by the parity check; for a latched write, with the line taken, the 32 bits and
the parity driven and the idle cycles made. The whole next state is given (no turnaround cycle; D6, D9). That an
acknowledgement runs as an instruction of its own, with the line direction that the state holds even where R113
asks for a released line, is the model's choice (log 14). That an instruction makes no turnaround cycle
(TRN_CYCLES = 0) is the default of the spec's decision D6 (log 1). That CNT is 0 once the operation has ended is
the model's choice (log 31). [41_swd_transfer.md R137, R138, R139, R141; 92_eei_decisions.md D6, D9;
notes/assumptions/1.md; notes/assumptions/14.md; notes/assumptions/31.md] -/
def Obligations.AcknowledgementOkOpensTheDataPhase : Prop :=
  (∀ (s : State) (v : Word) (pb : Bool) (rest : List Bool), s.req.direction = .read →
    s.samples = wireBits v ++ pb :: rest →
    exec .ackOk s = .next
      { s with
        ack := 1, clk := true, shift := v, par := parity v, perr := pb ^^ parity v, samples := rest
        trace := afterWire ((wireBits v).map .r ++ .r pb :: List.replicate s.cfg.idleCycles.toNat .z) s.trace
        res := if pb = parity v then ⟨1, some v⟩ else ⟨8, none⟩, fsm := .idle, cnt := 0 }) ∧
  (∀ s : State, s.req.direction = .write →
    exec .ackOk s = .next
      { s with
        ack := 1, dir := .output, clk := true
        dout := if s.cfg.idleCycles = 0 then parity s.req.value else false
        shift := s.req.value, par := parity s.req.value
        trace := afterWire (.out :: (wireBits s.req.value).map .w ++ .w (parity s.req.value) ::
          (if s.cfg.idleCycles = 0 then [] else .low :: List.replicate s.cfg.idleCycles.toNat .z)) s.trace
        res := ⟨1, none⟩, fsm := .idle, cnt := 0 })

/-- Whatever the target answers: an acknowledgement other than 1 is the result, with no value; an acknowledged write
is OK with no value; an acknowledged read is PROTOCOL_ERROR with no value if the parity differed and OK with the
shift register otherwise. A value exists exactly for a read that ended OK; the result code is at most 8; the
engine is idle; and the attempt made 44 + 2T + I clock cycles if it was acknowledged OK and 11 + 2T otherwise.
[41_swd_transfer.md R142, R144, R147; 10_state.md R19; 30_encoding.md R78] -/
def Obligations.ResultOfAnAttemptByCase : Prop :=
  ∀ (trn : Nat) (req : TransferRequest) (s : State),
    let t := executeTransfer trn req s
    t.res = (if t.ack = 1 then
        match req.direction with
        | .write => ⟨1, none⟩
        | .read => if t.perr then ⟨8, none⟩ else ⟨1, some t.shift⟩
      else ⟨t.ack.setWidth 4, none⟩) ∧
    (t.res.value.isSome = true ↔ req.direction = .read ∧ t.res.ack = 1) ∧ t.res.ack.toNat ≤ 8 ∧ t.fsm = .idle ∧
    clockCycles t.trace = clockCycles s.trace +
      (if t.ack = 1 then 44 + 2 * trn + s.cfg.idleCycles.toNat else 11 + 2 * trn)

/-- Whatever the target answers, after an attempt the line is driven if it was an acknowledged write and released
otherwise, the clock is high, and the data latch is 0 or the value's parity after an acknowledged write (with
and without idle cycles) and the park bit 1 otherwise; after a raw sequence of at least one bit the line is
driven, the clock is high and the data latch holds the last bit. Neither writes the configuration, the flag, the
reset line or a buffer. With fewer than ceil(bit_count / 8) bytes, a call that no step makes (R146), the missing
bits are 0, the model's choice (log 32). [41_swd_transfer.md R143; 40_pin_primitive.md R115; 10_state.md R38;
notes/assumptions/32.md] -/
def Obligations.LineAndClockAtTheEndOfAnOperation : Prop :=
  (∀ (trn : Nat) (req : TransferRequest) (s : State),
    let t := executeTransfer trn req s
    t.dir = (if t.ack = 1 ∧ req.direction = .write then .output else .input) ∧ t.clk = true ∧
    t.dout = (if t.ack = 1 ∧ req.direction = .write then
        (if s.cfg.idleCycles = 0 then parity req.value else false) else true) ∧
    EngineFrame s t) ∧
  (∀ (n : BitVec 32) (bits : List Byte) (s : State), n ≠ 0 →
    let t := generateSequence n bits s
    t.dir = .output ∧ t.clk = true ∧ t.dout = sequenceBit bits (n.toNat - 1) ∧ t.samples = s.samples ∧
    EngineFrame s t)

/-- For every bit count and byte sequence, the raw sequence's whole next state: the line is taken, bit k of the
sequence is driven on cycle k, no bit is sampled; a count of 0 takes the line and makes no cycle. Taking the
line at entry is the spec's own decision D31. That CNT is 0 once the operation has ended is the model's choice
(log 31). With fewer than ceil(bit_count / 8) bytes, a call that no step makes (R146), the missing bits are 0,
the model's choice (log 32). [41_swd_transfer.md R145, R146; 20_memory.md R49; 92_eei_decisions.md D31;
notes/assumptions/31.md; notes/assumptions/32.md] -/
def Obligations.RawSequenceDrivesItsBits : Prop :=
  ∀ (n : BitVec 32) (bits : List Byte) (s : State), generateSequence n bits s = afterSequence n bits s

/-- For every turnaround count, request, state and target: starting the state machine of R150 on a request and
stepping it once for each clock cycle that the pseudocode of R152 makes, and no more, gives exactly the state of
the pseudocode: every pin event, every register, the result, IDLE. Both leave CNT at 0, which is the model's
choice (log 31). [41_swd_transfer.md R150, R151, R152; 10_state.md R23; 92_eei_decisions.md D8;
notes/assumptions/31.md] -/
def Obligations.ClockedTransferEqualsThePseudocode : Prop :=
  ∀ (trn : Nat) (req : TransferRequest) (s : State),
    let t := executeTransfer trn req s
    runClock trn (clockCycles t.trace - clockCycles s.trace) (startTransfer req s) = t

/-- For every bit count, byte sequence and state, starting the state machine on a raw sequence and stepping it once
a bit gives exactly the state of the pseudocode of R145. Both leave CNT at 0, which is the model's choice (log
31). With fewer than ceil(bit_count / 8) bytes, a call that no step makes (R146), the missing bits are 0, the
model's choice (log 32). [41_swd_transfer.md R145, R150, R151; 92_eei_decisions.md D8, D31;
notes/assumptions/31.md; notes/assumptions/32.md] -/
def Obligations.ClockedSequenceEqualsThePseudocode : Prop :=
  ∀ (trn : Nat) (n : BitVec 32) (bits : List Byte) (s : State),
    runClock trn n.toNat (startSequence n bits s) = generateSequence n bits s

/-- From every state with the engine idle, no command in progress and a transfer request at the head of the inputs
to be run clock by clock: some number of steps of the machine, none of which faults or refuses, ends in the
state of the pseudocode on that request. That a step is one clock cycle here is the model's choice (log 11). So
is CNT = 0 in the state it ends in (log 31). [41_swd_transfer.md R150, R151; 20_memory.md R60;
notes/assumptions/11.md; notes/assumptions/31.md] -/
def Obligations.StepsOfAClockedTransferReachItsResult : Prop :=
  ∀ (s : State) (req : TransferRequest) (rest : List Input), s.fsm = .idle → s.busy = false →
    s.inputs = .clockedTransfer req :: rest →
    ∃ k, Host.Core.run Sys2Proof.core (k + 1) s =
      .next (executeTransfer Config.trnCycles req { s with inputs := rest })

/-- For every value, port, register index, turnaround count and state: if a write of the value is acknowledged OK,
then a read of the same register, from any state, whose target answers OK and replays the 33 levels that were
driven in the write's data phase (32 data bits and their parity), returns OK and that value. [R156] -/
def Obligations.LoopbackRoundTrip : Prop :=
  ∀ (trn : Nat) (p : Port) (k : BitVec 2) (V V' : Word) (s s' : State) (rest rest' : List Bool),
    s.samples = ackAnswer 1 ++ rest →
    let t := executeTransfer trn ⟨p, .write, k, V⟩ s
    let driven := ((dataLevels t.trace).drop (if s.cfg.idleCycles = 0 then 0 else 1)).take 33
    s'.samples = ackAnswer 1 ++ driven.reverse ++ rest' →
    (executeTransfer trn ⟨p, .read, k, V'⟩ s').res = ⟨1, some V⟩

/-- If any of bits 7 to 4 of the transfer request byte is set, Transfer and TransferBlock give the next state of a
rejected command with the label RESERVED_BITS: response 0xFF, OK_OUT 0, nothing else changed. That it is
rejected is the spec's own decision D11. [30_encoding.md R82; 44_dap_transfer.md R242; 92_eei_decisions.md D11] -/
def Obligations.ReservedRequestBitsAreRejected : Prop :=
  ∀ (rq : Byte) (s : State), rq &&& 0xF0#8 ≠ 0 →
    (∀ v, exec (.xfer rq v) s = .next (afterRejection .reservedBits s)) ∧
    (∀ count data, exec (.xferBlk rq count data) s = .next (afterRejection .reservedBits s))

/-- For a read Transfer without reserved bits, whatever its operand: if the target answers WAIT k times with k below
max(1, wait_retry), then OK with the bits of v and a parity bit, the command completes after exactly k + 1
attempts; its response is 0x05 0x01 and v little-endian with OK_OUT 1 if the parity bit is right, and 0x05 0x08
with OK_OUT 0 if it is not; configuration, flag, reset line, request and host side are unchanged. Layout and
budget are the spec's own decisions D13, D14. The budget for wait_retry = 0 is D14's (log 25).
[44_dap_transfer.md R243 to R246, R264; 95_test_vectors.md E1, E2, E6; 92_eei_decisions.md D13, D14;
notes/assumptions/25.md] -/
def Obligations.TransferReadAfterWaits : Prop :=
  ∀ (rq : Byte) (operand : Word) (s : State) (k : Nat) (v : Word) (pb : Bool) (rest : List Bool),
    rq &&& 0xF0#8 = 0 → rq.getLsbD 1 = true → k < max 1 s.cfg.waitRetry.toNat →
    s.samples = waits k ++ readAnswer v pb ++ rest →
    ∃ t, exec (.xfer rq operand) s = .next t ∧ t.retryCount = k + 1 ∧ t.samples = rest ∧
      t.response = (if pb = parity v then 0x05 :: 0x01 :: leBytes 4 v.toNat else [0x05, 0x08]) ∧
      t.respLen = (if pb = parity v then 6 else 2) ∧ t.okOut = decide (pb = parity v) ∧
      t.cfg = s.cfg ∧ t.connected = s.connected ∧ t.busy = s.busy ∧ t.cause = none ∧ CommandFrame s t

/-- For a write Transfer without reserved bits: if the target answers WAIT k times with k below max(1, wait_retry)
and then OK, the command completes after exactly k + 1 attempts with response 0x05 0x01 and OK_OUT 1; the
operand is driven in the last attempt, with its parity; the line stays driven. The wire trace is the k
unanswered headers and the one write. Layout and budget are the spec's own decisions D13, D14. The idle cycles
in that trace and the level during them are its decision D9 (log 26). That an instruction makes no turnaround
cycle (TRN_CYCLES = 0) is the default of the spec's decision D6 (log 1). The budget for wait_retry = 0 is D14's
(log 25). [44_dap_transfer.md R243 to R246; 41_swd_transfer.md R140, R141; 95_test_vectors.md E2 and V-T13;
92_eei_decisions.md D6, D9, D13, D14; notes/assumptions/1.md; notes/assumptions/26.md; notes/assumptions/25.md] -/
def Obligations.TransferWriteAfterWaits : Prop :=
  ∀ (rq : Byte) (operand : Word) (s : State) (k : Nat) (rest : List Bool),
    rq &&& 0xF0#8 = 0 → rq.getLsbD 1 = false → k < max 1 s.cfg.waitRetry.toNat →
    s.samples = waits k ++ ackAnswer 1 ++ rest →
    ∃ t, exec (.xfer rq operand) s = .next t ∧ t.retryCount = k + 1 ∧ t.samples = rest ∧
      t.response = [0x05, 0x01] ∧ t.respLen = 2 ∧ t.okOut = true ∧ t.dir = .output ∧
      t.trace = afterWire ((List.replicate k (noDataWire 0 (requestOf rq operand) 2)).flatten ++
        writeWire 0 s.cfg.idleCycles.toNat (requestOf rq operand)) s.trace ∧
      t.cfg = s.cfg ∧ t.connected = s.connected ∧ t.busy = s.busy ∧ t.cause = none ∧ CommandFrame s t

/-- For a Transfer without reserved bits, read or write: if the target answers WAIT k times with k below the budget
and then an acknowledgement that is neither OK nor WAIT (FAULT or an invalid value), the command completes after
exactly k + 1 attempts with response 0x05 and that value, OK_OUT 0, and the line released. The budget for
wait_retry = 0 is D14's (log 25). [44_dap_transfer.md R243, R245, R246; 60_exceptions.md R302, R306;
92_eei_decisions.md D13, D14; notes/assumptions/25.md] -/
def Obligations.TransferReportsTheFirstOtherAcknowledgement : Prop :=
  ∀ (rq : Byte) (operand : Word) (s : State) (k : Nat) (a : BitVec 3) (rest : List Bool),
    rq &&& 0xF0#8 = 0 → k < max 1 s.cfg.waitRetry.toNat → a ≠ 1 → a ≠ 2 →
    s.samples = waits k ++ ackAnswer a ++ rest →
    ∃ t, exec (.xfer rq operand) s = .next t ∧ t.retryCount = k + 1 ∧ t.samples = rest ∧
      t.response = [0x05, a.setWidth 8] ∧ t.respLen = 2 ∧ t.okOut = false ∧ t.dir = .input ∧
      t.cfg = s.cfg ∧ t.connected = s.connected ∧ t.busy = s.busy ∧ t.cause = none ∧ CommandFrame s t

/-- For a Transfer without reserved bits, read or write: if the target answers WAIT at least max(1, wait_retry)
times, the command completes after exactly that many attempts with response 0x05 0x02 and OK_OUT 0, having made
11 clock cycles an attempt, and asks the target nothing more. The budget for wait_retry = 0 is the spec's own
decision D14 (log 25). That an instruction makes no turnaround cycle (TRN_CYCLES = 0) is the default of the
spec's decision D6 (log 1). [44_dap_transfer.md R244; 41_swd_transfer.md R140; 95_test_vectors.md E3;
92_eei_decisions.md D6, D14; notes/assumptions/1.md; notes/assumptions/25.md] -/
def Obligations.TransferGivesUpWhenTheBudgetIsSpent : Prop :=
  ∀ (rq : Byte) (operand : Word) (s : State) (rest : List Bool),
    rq &&& 0xF0#8 = 0 → s.samples = waits (max 1 s.cfg.waitRetry.toNat) ++ rest →
    ∃ t, exec (.xfer rq operand) s = .next t ∧ t.retryCount = max 1 s.cfg.waitRetry.toNat ∧ t.samples = rest ∧
      t.response = [0x05, 0x02] ∧ t.respLen = 2 ∧ t.okOut = false ∧
      clockCycles t.trace = clockCycles s.trace + 11 * max 1 s.cfg.waitRetry.toNat ∧
      t.cfg = s.cfg ∧ t.connected = s.connected ∧ t.busy = s.busy ∧ t.cause = none ∧ CommandFrame s t

/-- For a read Transfer without reserved bits whose target answers OK with a value of which one bit was flipped and
the parity bit of the original value: the response is the two bytes 0x05 0x08 and OK_OUT is 0, after one
attempt. [44_dap_transfer.md R264; 41_swd_transfer.md R138; 95_test_vectors.md E6; 92_eei_decisions.md D13] -/
def Obligations.FlippedReadBitIsNotSurfaced : Prop :=
  ∀ (rq : Byte) (operand : Word) (s : State) (v : Word) (j : Nat) (rest : List Bool),
    rq &&& 0xF0#8 = 0 → rq.getLsbD 1 = true → j < 32 →
    s.samples = readAnswer (v ^^^ 1#32 <<< j) (parity v) ++ rest →
    ∃ t, exec (.xfer rq operand) s = .next t ∧ t.retryCount = 1 ∧ t.response = [0x05, 0x08] ∧ t.okOut = false

/-- Whatever the target answers and whatever the turnaround: the loop makes between 1 and max(1, wait_retry)
attempts; its result is the state after exactly that many attempts of the same request, one directly after
another; every attempt before the last was answered WAIT, so an attempt answered anything else is the last; if
the reported acknowledgement is WAIT the loop made all the attempts of the budget; and it makes at most (B -
1)(11 + 2T) + 44 + 2T + I clock cycles. The budget for wait_retry = 0 is the spec's own decision D14 (log 25);
the places of turnaround and idle cycles are its decisions D6 and D9. [44_dap_transfer.md R243, R244, R263;
42_dap_dispatch.md R187; 70_reset_and_hazards.md R360; 92_eei_decisions.md D6, D9, D14; notes/assumptions/25.md] -/
def Obligations.RetryStopsAtTheBudgetForEveryTarget : Prop :=
  ∀ (trn : Nat) (req : TransferRequest) (s : State),
    let t := transferWithRetry trn req s
    let start : State := { s with retryCount := 0 }
    let budget := max 1 s.cfg.waitRetry.toNat
    1 ≤ t.retryCount ∧ t.retryCount ≤ budget ∧ t = attempts trn req t.retryCount start ∧
    (∀ k, 0 < k → k < t.retryCount → (attempts trn req k start).res.ack = 2) ∧
    (t.res.ack = 2 → t.retryCount = budget) ∧
    clockCycles t.trace ≤ clockCycles s.trace +
      ((budget - 1) * (11 + 2 * trn) + 44 + 2 * trn + s.cfg.idleCycles.toNat) ∧
    EngineFrame s t

/-- For a read TransferBlock without reserved bits and a count of at most 15: if the target completes fewer
sub-transfers than the count, each after fewer WAITs than the budget, with values vs, and then answers an
acknowledgement that is neither OK nor WAIT, the response is 0x06, the number completed (two bytes), that
acknowledgement and the values little-endian, RESP_LEN is 4 plus four bytes a value, OK_OUT is 0, and nothing
more is asked of the target. Layout and retry inside a block are the spec's own decisions D15, D16. The budget
for wait_retry = 0 is its decision D14 (log 25). [44_dap_transfer.md R250 to R256; 95_test_vectors.md E5;
92_eei_decisions.md D14, D15, D16; notes/assumptions/25.md] -/
def Obligations.BlockReadReportsItsProgress : Prop :=
  ∀ (rq : Byte) (count : BitVec 16) (data : List Byte) (s : State) (vs : List (Nat × Word)) (k : Nat) (a : BitVec 3)
    (rest : List Bool), rq &&& 0xF0#8 = 0 → rq.getLsbD 1 = true → count.toNat ≤ 15 → vs.length < count.toNat →
    (∀ kv ∈ vs, kv.1 < max 1 s.cfg.waitRetry.toNat) → k < max 1 s.cfg.waitRetry.toNat → a ≠ 1 → a ≠ 2 →
    s.samples = blockReadAnswers vs ++ waits k ++ ackAnswer a ++ rest →
    ∃ t, exec (.xferBlk rq count data) s = .next t ∧ t.doneCount = vs.length ∧ t.samples = rest ∧
      t.response = 0x06 :: leBytes 2 vs.length ++ [a.setWidth 8] ++ vs.flatMap (fun kv => leBytes 4 kv.2.toNat) ∧
      t.respLen = 4 + 4 * vs.length ∧ t.okOut = false ∧
      t.cfg = s.cfg ∧ t.connected = s.connected ∧ t.busy = s.busy ∧ t.cause = none ∧ CommandFrame s t

/-- For a read TransferBlock without reserved bits and a count of at most 15: if the target completes fewer
sub-transfers than the count, each after fewer WAITs than the budget, with values vs, and the next one then
answers OK with a value and the wrong parity bit (after fewer WAITs than the budget), or answers WAIT until the
budget is spent, the response is 0x06, the number completed, the byte 0x08 or 0x02, and the values vs alone;
OK_OUT is 0 and nothing more is asked of the target. Layout and retry inside a block are the spec's own
decisions D15, D16. The budget for wait_retry = 0 is its decision D14 (log 25). [44_dap_transfer.md R243, R244,
R250 to R256; 95_test_vectors.md V-B14, V-B15; 92_eei_decisions.md D14, D15, D16; notes/assumptions/25.md] -/
def Obligations.BlockReadStopsOnParityErrorOrSpentBudget : Prop :=
  ∀ (rq : Byte) (count : BitVec 16) (data : List Byte) (s : State) (vs : List (Nat × Word)) (rest : List Bool),
    rq &&& 0xF0#8 = 0 → rq.getLsbD 1 = true → count.toNat ≤ 15 → vs.length < count.toNat →
    (∀ kv ∈ vs, kv.1 < max 1 s.cfg.waitRetry.toNat) →
    (∀ (k : Nat) (v : Word), k < max 1 s.cfg.waitRetry.toNat →
      s.samples = blockReadAnswers vs ++ waits k ++ readAnswer v (!parity v) ++ rest →
      ∃ t, exec (.xferBlk rq count data) s = .next t ∧ t.doneCount = vs.length ∧ t.samples = rest ∧
        t.response = 0x06 :: leBytes 2 vs.length ++ [0x08] ++ vs.flatMap (fun kv => leBytes 4 kv.2.toNat) ∧
        t.respLen = 4 + 4 * vs.length ∧ t.okOut = false ∧
        t.cfg = s.cfg ∧ t.connected = s.connected ∧ t.busy = s.busy ∧ t.cause = none ∧ CommandFrame s t) ∧
    (s.samples = blockReadAnswers vs ++ waits (max 1 s.cfg.waitRetry.toNat) ++ rest →
      ∃ t, exec (.xferBlk rq count data) s = .next t ∧ t.doneCount = vs.length ∧ t.samples = rest ∧
        t.response = 0x06 :: leBytes 2 vs.length ++ [0x02] ++ vs.flatMap (fun kv => leBytes 4 kv.2.toNat) ∧
        t.respLen = 4 + 4 * vs.length ∧ t.okOut = false ∧
        t.cfg = s.cfg ∧ t.connected = s.connected ∧ t.busy = s.busy ∧ t.cause = none ∧ CommandFrame s t)

/-- For a read TransferBlock without reserved bits and a count of at most 15 (0 included): if the target completes
every sub-transfer, each after fewer WAITs than the budget, the response is 0x06, the count (two bytes), the
acknowledgement 1 (0 for an empty block) and all the values little-endian, and OK_OUT is 1. An empty block makes
no pin call. Layout, the byte 0 of an empty block and retry inside a block are the spec's own decisions D15,
D16. The budget for wait_retry = 0 is its decision D14 (log 25). [44_dap_transfer.md R250 to R256;
95_test_vectors.md V-B1, V-B4; 92_eei_decisions.md D14, D15, D16; notes/assumptions/25.md] -/
def Obligations.BlockReadCompletes : Prop :=
  ∀ (rq : Byte) (count : BitVec 16) (data : List Byte) (s : State) (vs : List (Nat × Word)) (rest : List Bool),
    rq &&& 0xF0#8 = 0 → rq.getLsbD 1 = true → count.toNat ≤ 15 → vs.length = count.toNat →
    (∀ kv ∈ vs, kv.1 < max 1 s.cfg.waitRetry.toNat) → s.samples = blockReadAnswers vs ++ rest →
    ∃ t, exec (.xferBlk rq count data) s = .next t ∧ t.doneCount = vs.length ∧ t.samples = rest ∧
      t.response = 0x06 :: leBytes 2 vs.length ++ [if vs = [] then 0x00 else 0x01] ++
        vs.flatMap (fun kv => leBytes 4 kv.2.toNat) ∧
      t.respLen = 4 + 4 * vs.length ∧ t.okOut = true ∧ (vs = [] → t.trace = s.trace) ∧
      t.cfg = s.cfg ∧ t.connected = s.connected ∧ t.busy = s.busy ∧ t.cause = none ∧ CommandFrame s t

/-- For a write TransferBlock without reserved bits whose data is all in the packet: if the target completes as many
sub-transfers as the list ks says, each after fewer WAITs than the budget, and either that is the whole count,
or it then answers an acknowledgement a that is neither OK nor WAIT (after fewer WAITs than the budget), or it
then answers WAIT until the budget is spent, the response is 0x06, the number completed (two bytes), and 1 (0
for an empty block), or a, or 2; RESP_LEN is 4; OK_OUT is 1 exactly if all completed; nothing more is asked of
the target. Layout, budget and retry inside a block are the spec's own decisions D15, D14 (log 25), D16.
[44_dap_transfer.md R243, R244, R250 to R256; 70_reset_and_hazards.md R357; 95_test_vectors.md V-B7, V-B11;
92_eei_decisions.md D14, D15, D16; notes/assumptions/25.md] -/
def Obligations.BlockWriteReportsItsProgress : Prop :=
  ∀ (rq : Byte) (count : BitVec 16) (data : List Byte) (s : State) (ks : List Nat) (rest : List Bool),
    rq &&& 0xF0#8 = 0 → rq.getLsbD 1 = false → 4 * count.toNat ≤ data.length → count.toNat ≤ 15 →
    (∀ k ∈ ks, k < max 1 s.cfg.waitRetry.toNat) →
    (ks.length = count.toNat → s.samples = blockWriteAnswers ks ++ rest →
      ∃ t, exec (.xferBlk rq count data) s = .next t ∧ t.doneCount = ks.length ∧ t.samples = rest ∧
        t.response = 0x06 :: leBytes 2 ks.length ++ [if ks = [] then 0x00 else 0x01] ∧ t.respLen = 4 ∧
        t.okOut = true ∧ t.cfg = s.cfg ∧ t.connected = s.connected ∧ t.busy = s.busy ∧ t.cause = none ∧ CommandFrame s t) ∧
    (∀ (k : Nat) (a : BitVec 3), ks.length < count.toNat → k < max 1 s.cfg.waitRetry.toNat → a ≠ 1 → a ≠ 2 →
      s.samples = blockWriteAnswers ks ++ waits k ++ ackAnswer a ++ rest →
      ∃ t, exec (.xferBlk rq count data) s = .next t ∧ t.doneCount = ks.length ∧ t.samples = rest ∧
        t.response = 0x06 :: leBytes 2 ks.length ++ [a.setWidth 8] ∧ t.respLen = 4 ∧ t.okOut = false ∧
        t.cfg = s.cfg ∧ t.connected = s.connected ∧ t.busy = s.busy ∧ t.cause = none ∧ CommandFrame s t) ∧
    (ks.length < count.toNat → s.samples = blockWriteAnswers ks ++ waits (max 1 s.cfg.waitRetry.toNat) ++ rest →
      ∃ t, exec (.xferBlk rq count data) s = .next t ∧ t.doneCount = ks.length ∧ t.samples = rest ∧
        t.response = 0x06 :: leBytes 2 ks.length ++ [0x02] ∧ t.respLen = 4 ∧ t.okOut = false ∧
        t.cfg = s.cfg ∧ t.connected = s.connected ∧ t.busy = s.busy ∧ t.cause = none ∧ CommandFrame s t)

/-- For a write TransferBlock without reserved bits whose data is all in the packet and whose target answers every
sub-transfer OK at once: the wire trace is one acknowledged write for each data word, in order, word i being the
four packet bytes from offset 4 + 4i, little-endian, with the same port and register index. Byte order and
layout are the spec's own decisions D12 and D15, the idle cycles in the trace its decision D9 (log 26). That an
instruction makes no turnaround cycle (TRN_CYCLES = 0) is the default of the spec's decision D6 (log 1).
[44_dap_transfer.md R250, R252, R256; 41_swd_transfer.md R140, R141; 95_test_vectors.md V-B7;
92_eei_decisions.md D6, D9, D12, D15; notes/assumptions/1.md; notes/assumptions/26.md] -/
def Obligations.BlockWriteDrivesItsWordsInOrder : Prop :=
  ∀ (rq : Byte) (count : BitVec 16) (data : List Byte) (s : State) (rest : List Bool),
    rq &&& 0xF0#8 = 0 → rq.getLsbD 1 = false → 4 * count.toNat ≤ data.length → count.toNat ≤ 15 →
    s.samples = blockWriteAnswers (List.replicate count.toNat 0) ++ rest →
    ∃ t, exec (.xferBlk rq count data) s = .next t ∧
      t.trace = afterWire ((List.range count.toNat).flatMap fun i =>
        writeWire 0 s.cfg.idleCycles.toNat
          (requestOf rq (BitVec.ofNat 32 (leNat ((data.drop (4 * i)).take 4))))) s.trace

/-- For a request of at most 64 bytes that decodes to TransferBlock without reserved bits: a write whose data does
not fit the request (4 + 4 * count above the request's length) is rejected with the label TRUNCATED; a read
whose data does not fit the response (4 + 4 * count above 64) is rejected with RESPONSE_TOO_LONG; in both cases
nothing but the response changes. A count above 15 is always rejected, and a count of at most 15 whose data fits
is not. [R251] -/
def Obligations.BlockThatDoesNotFitIsRejectedWhole : Prop :=
  ∀ (bytes : List Byte) (rq : Byte) (count : BitVec 16) (data : List Byte) (s : State),
    decodePacket bytes.length bytes = .ok (.xferBlk rq count data) → rq &&& 0xF0#8 = 0 →
    (rq.getLsbD 1 = false → bytes.length < 4 + 4 * count.toNat →
      exec (.xferBlk rq count data) s = .next (afterRejection .truncated s)) ∧
    (rq.getLsbD 1 = true → 64 < 4 + 4 * count.toNat →
      exec (.xferBlk rq count data) s = .next (afterRejection .responseTooLong s)) ∧
    (15 < count.toNat → ∃ c, exec (.xferBlk rq count data) s = .next (afterRejection c s)) ∧
    (count.toNat ≤ 15 → (rq.getLsbD 1 = false → 4 + 4 * count.toNat ≤ bytes.length) →
      ∃ t, exec (.xferBlk rq count data) s = .next t ∧ t.cause = none)

/-- For every count byte n, with N = 256 for 0 and n otherwise: if the packet holds at least ceil(N / 8) data bytes,
the command completes with the wire trace of the raw sequence of N bits, the line driven, the clock high, the
data latch at the last bit, the response 0x12 0x00 and OK_OUT 1; with fewer it is rejected with the label
TRUNCATED and nothing else changes. The command and its layout are the spec's own decision D21.
[44_dap_transfer.md R260, R261; 30_encoding.md R85; 92_eei_decisions.md D21] -/
def Obligations.SwjSequenceDrivesItsBitsAndAnswers : Prop :=
  ∀ (n : Byte) (data : List Byte) (s : State),
    let N := if n = 0 then 256 else n.toNat
    ((N + 7) / 8 ≤ data.length →
      ∃ t, exec (.swjSeq n data) s = .next t ∧ t.trace = afterWire (sequenceWire N data) s.trace ∧
        t.dir = .output ∧ t.clk = true ∧ t.dout = sequenceBit data (N - 1) ∧ t.samples = s.samples ∧
        t.response = [0x12, 0x00] ∧ t.respLen = 2 ∧ t.okOut = true ∧ t.fsm = .idle ∧
        t.cfg = s.cfg ∧ t.connected = s.connected ∧ t.busy = s.busy ∧ t.cause = none ∧ CommandFrame s t) ∧
    (data.length < (N + 7) / 8 → exec (.swjSeq n data) s = .next (afterRejection .truncated s))

/-- From every state with the engine idle and no command in progress, for every packet of any length and any bytes,
and every target: the step answers a next state; exactly one response is delivered, of 1 to 64 bytes; a rejected
command's response is the one byte 0xFF with OK_OUT 0; the block is idle and not busy, and the other inputs are
untouched. [R187] -/
def Obligations.EveryRequestGetsExactlyOneResponse : Prop :=
  ∀ (s : State) (bytes : List Byte) (rest : List Input), Ready s bytes rest →
    ∃ t r, step s = .next t ∧ t.outbox = s.outbox ++ [r] ∧ r.ok = t.okOut ∧
      1 ≤ r.bytes.length ∧ r.bytes.length ≤ 64 ∧
      (t.cause ≠ none → r.bytes = [0xFF] ∧ r.ok = false) ∧ t.busy = false ∧ t.fsm = .idle ∧ t.inputs = rest

/-- From every state with the engine idle and no command in progress, for every packet and every target: the first
byte of the response is the request's first byte if the command was not rejected and 0xFF if it was; a Transfer
without reserved bits, and a TransferBlock of at least one sub-transfer that passes its checks, is never a
rejected command whatever the target answers, and its response carries the final acknowledgement in byte 1, or
in byte 3. R188 says that the acknowledgement has its own byte; that it is byte 1 of Transfer and byte 3 of
TransferBlock is the spec's own decision D13 and D15 (log 2). [42_dap_dispatch.md R188; 44_dap_transfer.md R245,
R253; 92_eei_decisions.md D13, D15; notes/assumptions/2.md] -/
def Obligations.ResponseEchoesTheOpcode : Prop :=
  ∀ (s t : State) (bytes : List Byte) (rest : List Input), Ready s bytes rest → step s = .next t →
    (t.cause = none → t.response.head? = bytes.head?) ∧ (t.cause ≠ none → t.response.head? = some 0xFF) ∧
    (∀ rq v, decodePacket bytes.length bytes = .ok (.xfer rq v) → rq &&& 0xF0#8 = 0 →
      t.cause = none ∧ t.response[1]? = some (t.res.ack.setWidth 8)) ∧
    (∀ rq count data, decodePacket bytes.length bytes = .ok (.xferBlk rq count data) →
      blockCheck rq count data = none → 0 < count.toNat →
      t.cause = none ∧ t.response[3]? = some (t.res.ack.setWidth 8))

/-- For every DAP command with any operands, every state and every target: execution answers a next state whose
RESP_LEN is at least 1 and at most 64, whose response buffer is canonical, and every byte of the response below
RESP_LEN has a value. The capacity 64 is the spec's own decision D24. [42_dap_dispatch.md R189; 20_memory.md
R41, R42; 92_eei_decisions.md D24] -/
def Obligations.ResponseLengthStaysInsideTheBuffer : Prop :=
  ∀ (i : Instr) (s : State), i.wordPort = .packet →
    ∃ t, exec i s = .next t ∧ 1 ≤ t.respLen ∧ t.respLen ≤ 64 ∧ Memory.wf t.respBuf = true ∧
      t.response.length = t.respLen

/-- For every DAP command and state: if the command was rejected (it has a cause label), its response is the one
byte 0xFF with RESP_LEN 1 and OK_OUT 0, and the whole state but the response, OK_OUT, BUSY (cleared) and the
label is exactly as before: the configuration, the flag, the pins, the wire trace, the engine's and the
dispatcher's registers, the request and the host's side. [R311] -/
def Obligations.RejectedCommandChangesNothing : Prop :=
  ∀ (i : Instr) (s t : State), i.wordPort = .packet → exec i s = .next t → t.cause ≠ none →
    (∃ c, t = afterRejection c s) ∧ t.response = [0xFF] ∧ t.respLen = 1 ∧ t.okOut = false ∧ t.cfg = s.cfg ∧
    t.connected = s.connected ∧ t.rp = s.rp ∧ t.wp = s.wp ∧ CommandFrame s t ∧ PinFrame s t

/-- For every DAP command, state and target: OK_OUT is 0 after it exactly when it was rejected, or it is a Transfer
whose final acknowledgement is not OK, or a TransferBlock that completed fewer sub-transfers than its count.
This definition is the spec's own decision D24. [42_dap_dispatch.md R190; 92_eei_decisions.md D24] -/
def Obligations.StatusOutputSaysWhetherItFailed : Prop :=
  ∀ (i : Instr) (s t : State), i.wordPort = .packet → exec i s = .next t →
    (t.okOut = false ↔
      t.cause ≠ none ∨ (∃ rq v, i = .xfer rq v ∧ t.res.ack ≠ 1) ∨
      (∃ rq count data, i = .xferBlk rq count data ∧ t.doneCount < count.toNat))

/-- For every instruction and state, whatever the target answers: no instruction writes the reset line, the request
buffer, the request length or the host's side; an instruction that changes the configuration is
TransferConfigure; one that changes the connected flag is Connect or Disconnect; one that changes the operands
of a raw sequence is SWJ_Sequence, the sub-transfer count TransferBlock, the attempt count Transfer or
TransferBlock; one that changes the engine's request, result, header, acknowledgement, shift or parity registers
is a header, an acknowledgement, Transfer or TransferBlock; headers and acknowledgements leave the
configuration, the flag, the response and the dispatcher's registers; and the commands that make no pin call
leave the pins, the engine's registers and the wire as they were. [10_state.md R10 to R14, R38, R39;
40_pin_primitive.md R117; 43_dap_config_info.md R225] -/
def Obligations.WhoWritesWhat : Prop :=
  ∀ (i : Instr) (s t : State), exec i s = .next t →
    CommandFrame s t ∧ (t.cfg ≠ s.cfg → ∃ a b c, i = .xferCfg a b c) ∧
    (t.connected ≠ s.connected → (∃ p, i = .connect p) ∨ i = .disconnect) ∧
    (t.seqCount ≠ s.seqCount ∨ t.seqBits ≠ s.seqBits → ∃ n data, i = .swjSeq n data) ∧
    (t.doneCount ≠ s.doneCount → ∃ rq c data, i = .xferBlk rq c data) ∧
    (t.retryCount ≠ s.retryCount → (∃ rq v, i = .xfer rq v) ∨ ∃ rq c data, i = .xferBlk rq c data) ∧
    (t.req ≠ s.req ∨ t.res ≠ s.res ∨ t.hdr ≠ s.hdr ∨ t.ack ≠ s.ack ∨ t.shift ≠ s.shift ∨ t.par ≠ s.par ∨
        t.perr ≠ s.perr →
      i.wordPort ≠ .packet ∨ (∃ rq v, i = .xfer rq v) ∨ ∃ rq c data, i = .xferBlk rq c data) ∧
    (i.wordPort ≠ .packet → EngineFrame s t) ∧ (callsNoPin i = true → PinFrame s t)

/-- For every DAP command and two states that have the same configuration and face the same target (the same answers
given in advance and the same pin-event history): the two executions give the same response, length and status
output and the same pin events, whatever the connected flag, the line's direction and levels, the working
registers and the buffers hold. [42_dap_dispatch.md R191; 10_state.md R14, R16; 43_dap_config_info.md R219] -/
def Obligations.ResponseDependsOnConfigurationAndAnswersAlone : Prop :=
  ∀ (i : Instr) (s s' : State), i.wordPort = .packet → s.cfg = s'.cfg → s.samples = s'.samples → s.trace = s'.trace →
    ∃ t t', exec i s = .next t ∧ exec i s' = .next t' ∧ t.respBuf = t'.respBuf ∧ t.respLen = t'.respLen ∧
      t.okOut = t'.okOut ∧ t.cause = t'.cause ∧ t.trace = t'.trace ∧ t.samples = t'.samples

/-- Whatever the state: if a step answers a next state, the pin-event history has only grown, none of the new events
is a set_reset, and the reset line is as it was. [40_pin_primitive.md R117; 10_state.md R17, R28;
92_eei_decisions.md D34] -/
def Obligations.EveryStepOnlyAddsPinEvents : Prop :=
  ∀ s t : State, step s = .next t →
    t.rst = s.rst ∧ ∃ new, t.trace = new ++ s.trace ∧ ∀ l, PinEvent.setReset l ∉ new

/-- For every step, on any input, clocked or whole: if before it the engine is idle as long as no pin event was
made, and the first event made, if there is one, is `set_data_direction(output)`, then both hold after it. They
hold after reset, where no event was made and the engine is idle (R342, R344), so the first pin event ever is
that one, and it opens a Transfer, a TransferBlock, a SWJ_Sequence, or one of the engine's own operations, whose
entries are the model's choice (log 11). The direction switch at the entry is the spec's own decision D8 for an
attempt and D31 for a raw sequence. [70_reset_and_hazards.md R342; 41_swd_transfer.md R133, R145;
92_eei_decisions.md D8, D31; notes/assumptions/11.md] -/
def Obligations.FirstPinEventTakesTheLine : Prop :=
  (∀ s t : State, step s = .next t → (s.trace = [] → s.fsm = .idle) →
    (s.trace ≠ [] → s.trace.getLast? = some (.setDirection .output)) →
    (t.trace = [] → t.fsm = .idle) ∧ (t.trace ≠ [] → t.trace.getLast? = some (.setDirection .output))) ∧
  (∀ (i : BitVec 8) (w m : BitVec 16),
    (State.resetWith i w m).trace = [] ∧ (State.resetWith i w m).fsm = .idle)

/-- For every choice of the three reset parameters: after reset CFG holds them, CONNECTED is 0, FSM is IDLE, BUSY is
0 and no pin call has been made; the machine's reset state is one of these. These values are the spec's own
decision D25; nothing is said of the pins and the working registers, whose values the model chose (logs 4, 5).
[10_state.md R35, R37; 70_reset_and_hazards.md R340 to R344; 92_eei_decisions.md D25] -/
def Obligations.ResetLeavesTheBlockIdle : Prop :=
  (∀ (i : BitVec 8) (w m : BitVec 16),
    let s := State.resetWith i w m
    s.cfg = ⟨i, w, m⟩ ∧ s.connected = false ∧ s.fsm = .idle ∧ s.busy = false ∧ s.trace = []) ∧
  ∃ i w m, State.reset = State.resetWith i w m

/-- For every choice of the three reset parameters the state after reset meets the invariant of the machine: the
line and clock discipline, the engine's phase, the buffers in canonical form, no command in progress. That the
buffers are canonical and RESP_LEN lies inside its buffer rests on the values the model chose for them (log 5;
R37 leaves them unspecified). [10_state.md R37; 70_reset_and_hazards.md R341; notes/assumptions/5.md] -/
def Obligations.ResetStateMeetsTheInvariant : Prop :=
  ∀ (i : BitVec 8) (w m : BitVec 16), Inv (State.resetWith i w m)

/-- From every state that meets the invariant, if a step answers a next state, that state meets it: every sample was
taken with the line released and every level set with the line driven, the clock rests high from the first cycle
on, an engine phase has cycles left and its line direction, a sequence has all its bits, the buffers are
canonical with the response inside its buffer, and no command is in progress. [40_pin_primitive.md R115, R119;
41_swd_transfer.md R150; 20_memory.md R41, R42; 42_dap_dispatch.md R189] -/
def Obligations.EveryStepKeepsTheInvariant : Prop :=
  ∀ s t : State, Inv s → step s = .next t → Inv t

/-- From every state that meets the invariant, whatever the target answers, a step does not fault; and if a header
word at the head of the inputs is one of the sixteen headers, and a raw sequence there has at least
ceil(bit_count / 8) bytes (packets, requests, clocked transfers and an empty list need nothing), it does not
refuse either: it answers a next state. The entries, faults and refusals are the model's own (logs 11, 13, 18,
19). [60_exceptions.md R303, R333; 42_dap_dispatch.md R187; 41_swd_transfer.md R144, R146, R150; 30_encoding.md
R74; notes/assumptions/11.md; notes/assumptions/13.md; notes/assumptions/18.md; notes/assumptions/19.md] -/
def Obligations.NoReachableStepFaults : Prop :=
  ∀ s : State, Inv s →
    (∀ f, step s ≠ .fault f) ∧
    ((∀ w v, s.inputs.head? = some (.header w v) → ∃ p d k, w = headerWord p d k) →
      (∀ n bits, s.inputs.head? = some (.clockedSequence n bits) → (n.toNat + 7) / 8 ≤ bits.length) →
      ∃ t, step s = .next t)

/-- With the engine idle and no command in progress: a raw sequence with fewer than ceil(bit_count / 8) bytes is
refused, and so is a header word that is none of the sixteen; with the engine idle and BUSY set, the step is
refused. These refusals are the treatment `refuse` of U13 and U14 (logs 9, 13, 19). [41_swd_transfer.md R146;
30_encoding.md R74; 93_implementation_defined.md U13, U14; notes/assumptions/13.md; notes/assumptions/19.md;
notes/assumptions/9.md] -/
def Obligations.EngineEntryRefusesBrokenPreconditions : Prop :=
  (∀ (s : State) (n : BitVec 32) (bits : List Byte) (rest : List Input), s.fsm = .idle → s.busy = false →
    s.inputs = .clockedSequence n bits :: rest → bits.length < (n.toNat + 7) / 8 → step s = .refused .shortSequence) ∧
  (∀ (s : State) (w : Byte) (v : Word) (rest : List Input), s.fsm = .idle → s.busy = false →
    s.inputs = .header w v :: rest → (∀ p d k, w ≠ headerWord p d k) → step s = .refused .notAHeader) ∧
  (∀ s : State, s.fsm = .idle → s.busy = true → step s = .refused .commandInProgress)
end

