-- ==== Sys2Proof/Laws/State.lean ====
section
/-! SUPPORT. What each basic update leaves in each field of the state: one lemma a field and an update, true by
definition, so that no later proof unfolds a record update. -/

namespace Sys2Proof.Machine

variable (s : State)

/-! ### setClock -/

@[simp] theorem setClock_cfg (l : Bool) : (setClock l s).cfg = s.cfg := rfl
@[simp] theorem setClock_connected (l : Bool) : (setClock l s).connected = s.connected := rfl
@[simp] theorem setClock_dir (l : Bool) : (setClock l s).dir = s.dir := rfl
@[simp] theorem setClock_clk (l : Bool) : (setClock l s).clk = l := rfl
@[simp] theorem setClock_dout (l : Bool) : (setClock l s).dout = s.dout := rfl
@[simp] theorem setClock_rst (l : Bool) : (setClock l s).rst = s.rst := rfl
@[simp] theorem setClock_req (l : Bool) : (setClock l s).req = s.req := rfl
@[simp] theorem setClock_res (l : Bool) : (setClock l s).res = s.res := rfl
@[simp] theorem setClock_hdr (l : Bool) : (setClock l s).hdr = s.hdr := rfl
@[simp] theorem setClock_ack (l : Bool) : (setClock l s).ack = s.ack := rfl
@[simp] theorem setClock_shift (l : Bool) : (setClock l s).shift = s.shift := rfl
@[simp] theorem setClock_par (l : Bool) : (setClock l s).par = s.par := rfl
@[simp] theorem setClock_perr (l : Bool) : (setClock l s).perr = s.perr := rfl
@[simp] theorem setClock_cnt (l : Bool) : (setClock l s).cnt = s.cnt := rfl
@[simp] theorem setClock_fsm (l : Bool) : (setClock l s).fsm = s.fsm := rfl
@[simp] theorem setClock_seqCount (l : Bool) : (setClock l s).seqCount = s.seqCount := rfl
@[simp] theorem setClock_seqBits (l : Bool) : (setClock l s).seqBits = s.seqBits := rfl
@[simp] theorem setClock_busy (l : Bool) : (setClock l s).busy = s.busy := rfl
@[simp] theorem setClock_rp (l : Bool) : (setClock l s).rp = s.rp := rfl
@[simp] theorem setClock_wp (l : Bool) : (setClock l s).wp = s.wp := rfl
@[simp] theorem setClock_retryCount (l : Bool) : (setClock l s).retryCount = s.retryCount := rfl
@[simp] theorem setClock_doneCount (l : Bool) : (setClock l s).doneCount = s.doneCount := rfl
@[simp] theorem setClock_reqBuf (l : Bool) : (setClock l s).reqBuf = s.reqBuf := rfl
@[simp] theorem setClock_reqLen (l : Bool) : (setClock l s).reqLen = s.reqLen := rfl
@[simp] theorem setClock_respBuf (l : Bool) : (setClock l s).respBuf = s.respBuf := rfl
@[simp] theorem setClock_respLen (l : Bool) : (setClock l s).respLen = s.respLen := rfl
@[simp] theorem setClock_okOut (l : Bool) : (setClock l s).okOut = s.okOut := rfl
@[simp] theorem setClock_cause (l : Bool) : (setClock l s).cause = s.cause := rfl
@[simp] theorem setClock_trace (l : Bool) : (setClock l s).trace = .setClock l :: s.trace := rfl
@[simp] theorem setClock_samples (l : Bool) : (setClock l s).samples = s.samples := rfl
@[simp] theorem setClock_inputs (l : Bool) : (setClock l s).inputs = s.inputs := rfl
@[simp] theorem setClock_outbox (l : Bool) : (setClock l s).outbox = s.outbox := rfl

/-! ### setData -/

@[simp] theorem setData_cfg (l : Bool) : (setData l s).cfg = s.cfg := rfl
@[simp] theorem setData_connected (l : Bool) : (setData l s).connected = s.connected := rfl
@[simp] theorem setData_dir (l : Bool) : (setData l s).dir = s.dir := rfl
@[simp] theorem setData_clk (l : Bool) : (setData l s).clk = s.clk := rfl
@[simp] theorem setData_dout (l : Bool) : (setData l s).dout = l := rfl
@[simp] theorem setData_rst (l : Bool) : (setData l s).rst = s.rst := rfl
@[simp] theorem setData_req (l : Bool) : (setData l s).req = s.req := rfl
@[simp] theorem setData_res (l : Bool) : (setData l s).res = s.res := rfl
@[simp] theorem setData_hdr (l : Bool) : (setData l s).hdr = s.hdr := rfl
@[simp] theorem setData_ack (l : Bool) : (setData l s).ack = s.ack := rfl
@[simp] theorem setData_shift (l : Bool) : (setData l s).shift = s.shift := rfl
@[simp] theorem setData_par (l : Bool) : (setData l s).par = s.par := rfl
@[simp] theorem setData_perr (l : Bool) : (setData l s).perr = s.perr := rfl
@[simp] theorem setData_cnt (l : Bool) : (setData l s).cnt = s.cnt := rfl
@[simp] theorem setData_fsm (l : Bool) : (setData l s).fsm = s.fsm := rfl
@[simp] theorem setData_seqCount (l : Bool) : (setData l s).seqCount = s.seqCount := rfl
@[simp] theorem setData_seqBits (l : Bool) : (setData l s).seqBits = s.seqBits := rfl
@[simp] theorem setData_busy (l : Bool) : (setData l s).busy = s.busy := rfl
@[simp] theorem setData_rp (l : Bool) : (setData l s).rp = s.rp := rfl
@[simp] theorem setData_wp (l : Bool) : (setData l s).wp = s.wp := rfl
@[simp] theorem setData_retryCount (l : Bool) : (setData l s).retryCount = s.retryCount := rfl
@[simp] theorem setData_doneCount (l : Bool) : (setData l s).doneCount = s.doneCount := rfl
@[simp] theorem setData_reqBuf (l : Bool) : (setData l s).reqBuf = s.reqBuf := rfl
@[simp] theorem setData_reqLen (l : Bool) : (setData l s).reqLen = s.reqLen := rfl
@[simp] theorem setData_respBuf (l : Bool) : (setData l s).respBuf = s.respBuf := rfl
@[simp] theorem setData_respLen (l : Bool) : (setData l s).respLen = s.respLen := rfl
@[simp] theorem setData_okOut (l : Bool) : (setData l s).okOut = s.okOut := rfl
@[simp] theorem setData_cause (l : Bool) : (setData l s).cause = s.cause := rfl
@[simp] theorem setData_trace (l : Bool) : (setData l s).trace = .setData l :: s.trace := rfl
@[simp] theorem setData_samples (l : Bool) : (setData l s).samples = s.samples := rfl
@[simp] theorem setData_inputs (l : Bool) : (setData l s).inputs = s.inputs := rfl
@[simp] theorem setData_outbox (l : Bool) : (setData l s).outbox = s.outbox := rfl

/-! ### setDirection -/

@[simp] theorem setDirection_cfg (d : LineDir) : (setDirection d s).cfg = s.cfg := rfl
@[simp] theorem setDirection_connected (d : LineDir) : (setDirection d s).connected = s.connected := rfl
@[simp] theorem setDirection_dir (d : LineDir) : (setDirection d s).dir = d := rfl
@[simp] theorem setDirection_clk (d : LineDir) : (setDirection d s).clk = s.clk := rfl
@[simp] theorem setDirection_dout (d : LineDir) : (setDirection d s).dout = s.dout := rfl
@[simp] theorem setDirection_rst (d : LineDir) : (setDirection d s).rst = s.rst := rfl
@[simp] theorem setDirection_req (d : LineDir) : (setDirection d s).req = s.req := rfl
@[simp] theorem setDirection_res (d : LineDir) : (setDirection d s).res = s.res := rfl
@[simp] theorem setDirection_hdr (d : LineDir) : (setDirection d s).hdr = s.hdr := rfl
@[simp] theorem setDirection_ack (d : LineDir) : (setDirection d s).ack = s.ack := rfl
@[simp] theorem setDirection_shift (d : LineDir) : (setDirection d s).shift = s.shift := rfl
@[simp] theorem setDirection_par (d : LineDir) : (setDirection d s).par = s.par := rfl
@[simp] theorem setDirection_perr (d : LineDir) : (setDirection d s).perr = s.perr := rfl
@[simp] theorem setDirection_cnt (d : LineDir) : (setDirection d s).cnt = s.cnt := rfl
@[simp] theorem setDirection_fsm (d : LineDir) : (setDirection d s).fsm = s.fsm := rfl
@[simp] theorem setDirection_seqCount (d : LineDir) : (setDirection d s).seqCount = s.seqCount := rfl
@[simp] theorem setDirection_seqBits (d : LineDir) : (setDirection d s).seqBits = s.seqBits := rfl
@[simp] theorem setDirection_busy (d : LineDir) : (setDirection d s).busy = s.busy := rfl
@[simp] theorem setDirection_rp (d : LineDir) : (setDirection d s).rp = s.rp := rfl
@[simp] theorem setDirection_wp (d : LineDir) : (setDirection d s).wp = s.wp := rfl
@[simp] theorem setDirection_retryCount (d : LineDir) : (setDirection d s).retryCount = s.retryCount := rfl
@[simp] theorem setDirection_doneCount (d : LineDir) : (setDirection d s).doneCount = s.doneCount := rfl
@[simp] theorem setDirection_reqBuf (d : LineDir) : (setDirection d s).reqBuf = s.reqBuf := rfl
@[simp] theorem setDirection_reqLen (d : LineDir) : (setDirection d s).reqLen = s.reqLen := rfl
@[simp] theorem setDirection_respBuf (d : LineDir) : (setDirection d s).respBuf = s.respBuf := rfl
@[simp] theorem setDirection_respLen (d : LineDir) : (setDirection d s).respLen = s.respLen := rfl
@[simp] theorem setDirection_okOut (d : LineDir) : (setDirection d s).okOut = s.okOut := rfl
@[simp] theorem setDirection_cause (d : LineDir) : (setDirection d s).cause = s.cause := rfl
@[simp] theorem setDirection_trace (d : LineDir) : (setDirection d s).trace = .setDirection d :: s.trace := rfl
@[simp] theorem setDirection_samples (d : LineDir) : (setDirection d s).samples = s.samples := rfl
@[simp] theorem setDirection_inputs (d : LineDir) : (setDirection d s).inputs = s.inputs := rfl
@[simp] theorem setDirection_outbox (d : LineDir) : (setDirection d s).outbox = s.outbox := rfl

/-! ### delayHalf -/

@[simp] theorem delayHalf_cfg : (delayHalf s).cfg = s.cfg := rfl
@[simp] theorem delayHalf_connected : (delayHalf s).connected = s.connected := rfl
@[simp] theorem delayHalf_dir : (delayHalf s).dir = s.dir := rfl
@[simp] theorem delayHalf_clk : (delayHalf s).clk = s.clk := rfl
@[simp] theorem delayHalf_dout : (delayHalf s).dout = s.dout := rfl
@[simp] theorem delayHalf_rst : (delayHalf s).rst = s.rst := rfl
@[simp] theorem delayHalf_req : (delayHalf s).req = s.req := rfl
@[simp] theorem delayHalf_res : (delayHalf s).res = s.res := rfl
@[simp] theorem delayHalf_hdr : (delayHalf s).hdr = s.hdr := rfl
@[simp] theorem delayHalf_ack : (delayHalf s).ack = s.ack := rfl
@[simp] theorem delayHalf_shift : (delayHalf s).shift = s.shift := rfl
@[simp] theorem delayHalf_par : (delayHalf s).par = s.par := rfl
@[simp] theorem delayHalf_perr : (delayHalf s).perr = s.perr := rfl
@[simp] theorem delayHalf_cnt : (delayHalf s).cnt = s.cnt := rfl
@[simp] theorem delayHalf_fsm : (delayHalf s).fsm = s.fsm := rfl
@[simp] theorem delayHalf_seqCount : (delayHalf s).seqCount = s.seqCount := rfl
@[simp] theorem delayHalf_seqBits : (delayHalf s).seqBits = s.seqBits := rfl
@[simp] theorem delayHalf_busy : (delayHalf s).busy = s.busy := rfl
@[simp] theorem delayHalf_rp : (delayHalf s).rp = s.rp := rfl
@[simp] theorem delayHalf_wp : (delayHalf s).wp = s.wp := rfl
@[simp] theorem delayHalf_retryCount : (delayHalf s).retryCount = s.retryCount := rfl
@[simp] theorem delayHalf_doneCount : (delayHalf s).doneCount = s.doneCount := rfl
@[simp] theorem delayHalf_reqBuf : (delayHalf s).reqBuf = s.reqBuf := rfl
@[simp] theorem delayHalf_reqLen : (delayHalf s).reqLen = s.reqLen := rfl
@[simp] theorem delayHalf_respBuf : (delayHalf s).respBuf = s.respBuf := rfl
@[simp] theorem delayHalf_respLen : (delayHalf s).respLen = s.respLen := rfl
@[simp] theorem delayHalf_okOut : (delayHalf s).okOut = s.okOut := rfl
@[simp] theorem delayHalf_cause : (delayHalf s).cause = s.cause := rfl
@[simp] theorem delayHalf_trace : (delayHalf s).trace = .delay :: s.trace := rfl
@[simp] theorem delayHalf_samples : (delayHalf s).samples = s.samples := rfl
@[simp] theorem delayHalf_inputs : (delayHalf s).inputs = s.inputs := rfl
@[simp] theorem delayHalf_outbox : (delayHalf s).outbox = s.outbox := rfl

/-! ### getData -/

@[simp] theorem getData_cfg : (getData s).cfg = s.cfg := rfl
@[simp] theorem getData_connected : (getData s).connected = s.connected := rfl
@[simp] theorem getData_dir : (getData s).dir = s.dir := rfl
@[simp] theorem getData_clk : (getData s).clk = s.clk := rfl
@[simp] theorem getData_dout : (getData s).dout = s.dout := rfl
@[simp] theorem getData_rst : (getData s).rst = s.rst := rfl
@[simp] theorem getData_req : (getData s).req = s.req := rfl
@[simp] theorem getData_res : (getData s).res = s.res := rfl
@[simp] theorem getData_hdr : (getData s).hdr = s.hdr := rfl
@[simp] theorem getData_ack : (getData s).ack = s.ack := rfl
@[simp] theorem getData_shift : (getData s).shift = s.shift := rfl
@[simp] theorem getData_par : (getData s).par = s.par := rfl
@[simp] theorem getData_perr : (getData s).perr = s.perr := rfl
@[simp] theorem getData_cnt : (getData s).cnt = s.cnt := rfl
@[simp] theorem getData_fsm : (getData s).fsm = s.fsm := rfl
@[simp] theorem getData_seqCount : (getData s).seqCount = s.seqCount := rfl
@[simp] theorem getData_seqBits : (getData s).seqBits = s.seqBits := rfl
@[simp] theorem getData_busy : (getData s).busy = s.busy := rfl
@[simp] theorem getData_rp : (getData s).rp = s.rp := rfl
@[simp] theorem getData_wp : (getData s).wp = s.wp := rfl
@[simp] theorem getData_retryCount : (getData s).retryCount = s.retryCount := rfl
@[simp] theorem getData_doneCount : (getData s).doneCount = s.doneCount := rfl
@[simp] theorem getData_reqBuf : (getData s).reqBuf = s.reqBuf := rfl
@[simp] theorem getData_reqLen : (getData s).reqLen = s.reqLen := rfl
@[simp] theorem getData_respBuf : (getData s).respBuf = s.respBuf := rfl
@[simp] theorem getData_respLen : (getData s).respLen = s.respLen := rfl
@[simp] theorem getData_okOut : (getData s).okOut = s.okOut := rfl
@[simp] theorem getData_cause : (getData s).cause = s.cause := rfl
@[simp] theorem getData_trace : (getData s).trace = .getData s.lineLevel :: s.trace := rfl
@[simp] theorem getData_samples : (getData s).samples = s.samples.tail := rfl
@[simp] theorem getData_inputs : (getData s).inputs = s.inputs := rfl
@[simp] theorem getData_outbox : (getData s).outbox = s.outbox := rfl

/-! ### beginCommand -/

@[simp] theorem beginCommand_cfg (op : Byte) : (beginCommand op s).cfg = s.cfg := rfl
@[simp] theorem beginCommand_connected (op : Byte) : (beginCommand op s).connected = s.connected := rfl
@[simp] theorem beginCommand_dir (op : Byte) : (beginCommand op s).dir = s.dir := rfl
@[simp] theorem beginCommand_clk (op : Byte) : (beginCommand op s).clk = s.clk := rfl
@[simp] theorem beginCommand_dout (op : Byte) : (beginCommand op s).dout = s.dout := rfl
@[simp] theorem beginCommand_rst (op : Byte) : (beginCommand op s).rst = s.rst := rfl
@[simp] theorem beginCommand_req (op : Byte) : (beginCommand op s).req = s.req := rfl
@[simp] theorem beginCommand_res (op : Byte) : (beginCommand op s).res = s.res := rfl
@[simp] theorem beginCommand_hdr (op : Byte) : (beginCommand op s).hdr = s.hdr := rfl
@[simp] theorem beginCommand_ack (op : Byte) : (beginCommand op s).ack = s.ack := rfl
@[simp] theorem beginCommand_shift (op : Byte) : (beginCommand op s).shift = s.shift := rfl
@[simp] theorem beginCommand_par (op : Byte) : (beginCommand op s).par = s.par := rfl
@[simp] theorem beginCommand_perr (op : Byte) : (beginCommand op s).perr = s.perr := rfl
@[simp] theorem beginCommand_cnt (op : Byte) : (beginCommand op s).cnt = s.cnt := rfl
@[simp] theorem beginCommand_fsm (op : Byte) : (beginCommand op s).fsm = s.fsm := rfl
@[simp] theorem beginCommand_seqCount (op : Byte) : (beginCommand op s).seqCount = s.seqCount := rfl
@[simp] theorem beginCommand_seqBits (op : Byte) : (beginCommand op s).seqBits = s.seqBits := rfl
@[simp] theorem beginCommand_busy (op : Byte) : (beginCommand op s).busy = s.busy := rfl
@[simp] theorem beginCommand_rp (op : Byte) : (beginCommand op s).rp = 1 := rfl
@[simp] theorem beginCommand_wp (op : Byte) : (beginCommand op s).wp = 1 := rfl
@[simp] theorem beginCommand_retryCount (op : Byte) : (beginCommand op s).retryCount = s.retryCount := rfl
@[simp] theorem beginCommand_doneCount (op : Byte) : (beginCommand op s).doneCount = s.doneCount := rfl
@[simp] theorem beginCommand_reqBuf (op : Byte) : (beginCommand op s).reqBuf = s.reqBuf := rfl
@[simp] theorem beginCommand_reqLen (op : Byte) : (beginCommand op s).reqLen = s.reqLen := rfl
@[simp] theorem beginCommand_respBuf (op : Byte) : (beginCommand op s).respBuf = [(0, op)] := rfl
@[simp] theorem beginCommand_respLen (op : Byte) : (beginCommand op s).respLen = s.respLen := rfl
@[simp] theorem beginCommand_okOut (op : Byte) : (beginCommand op s).okOut = true := rfl
@[simp] theorem beginCommand_cause (op : Byte) : (beginCommand op s).cause = none := rfl
@[simp] theorem beginCommand_trace (op : Byte) : (beginCommand op s).trace = s.trace := rfl
@[simp] theorem beginCommand_samples (op : Byte) : (beginCommand op s).samples = s.samples := rfl
@[simp] theorem beginCommand_inputs (op : Byte) : (beginCommand op s).inputs = s.inputs := rfl
@[simp] theorem beginCommand_outbox (op : Byte) : (beginCommand op s).outbox = s.outbox := rfl

/-! ### endCommand -/

@[simp] theorem endCommand_cfg : (endCommand s).cfg = s.cfg := rfl
@[simp] theorem endCommand_connected : (endCommand s).connected = s.connected := rfl
@[simp] theorem endCommand_dir : (endCommand s).dir = s.dir := rfl
@[simp] theorem endCommand_clk : (endCommand s).clk = s.clk := rfl
@[simp] theorem endCommand_dout : (endCommand s).dout = s.dout := rfl
@[simp] theorem endCommand_rst : (endCommand s).rst = s.rst := rfl
@[simp] theorem endCommand_req : (endCommand s).req = s.req := rfl
@[simp] theorem endCommand_res : (endCommand s).res = s.res := rfl
@[simp] theorem endCommand_hdr : (endCommand s).hdr = s.hdr := rfl
@[simp] theorem endCommand_ack : (endCommand s).ack = s.ack := rfl
@[simp] theorem endCommand_shift : (endCommand s).shift = s.shift := rfl
@[simp] theorem endCommand_par : (endCommand s).par = s.par := rfl
@[simp] theorem endCommand_perr : (endCommand s).perr = s.perr := rfl
@[simp] theorem endCommand_cnt : (endCommand s).cnt = s.cnt := rfl
@[simp] theorem endCommand_fsm : (endCommand s).fsm = s.fsm := rfl
@[simp] theorem endCommand_seqCount : (endCommand s).seqCount = s.seqCount := rfl
@[simp] theorem endCommand_seqBits : (endCommand s).seqBits = s.seqBits := rfl
@[simp] theorem endCommand_busy : (endCommand s).busy = s.busy := rfl
@[simp] theorem endCommand_rp : (endCommand s).rp = s.rp := rfl
@[simp] theorem endCommand_wp : (endCommand s).wp = s.wp := rfl
@[simp] theorem endCommand_retryCount : (endCommand s).retryCount = s.retryCount := rfl
@[simp] theorem endCommand_doneCount : (endCommand s).doneCount = s.doneCount := rfl
@[simp] theorem endCommand_reqBuf : (endCommand s).reqBuf = s.reqBuf := rfl
@[simp] theorem endCommand_reqLen : (endCommand s).reqLen = s.reqLen := rfl
@[simp] theorem endCommand_respBuf : (endCommand s).respBuf = s.respBuf := rfl
@[simp] theorem endCommand_respLen : (endCommand s).respLen = s.wp := rfl
@[simp] theorem endCommand_okOut : (endCommand s).okOut = s.okOut := rfl
@[simp] theorem endCommand_cause : (endCommand s).cause = s.cause := rfl
@[simp] theorem endCommand_trace : (endCommand s).trace = s.trace := rfl
@[simp] theorem endCommand_samples : (endCommand s).samples = s.samples := rfl
@[simp] theorem endCommand_inputs : (endCommand s).inputs = s.inputs := rfl
@[simp] theorem endCommand_outbox : (endCommand s).outbox = s.outbox := rfl

/-! ### errorResponse -/

@[simp] theorem errorResponse_cfg (c : ErrorCause) : (errorResponse c s).cfg = s.cfg := rfl
@[simp] theorem errorResponse_connected (c : ErrorCause) : (errorResponse c s).connected = s.connected := rfl
@[simp] theorem errorResponse_dir (c : ErrorCause) : (errorResponse c s).dir = s.dir := rfl
@[simp] theorem errorResponse_clk (c : ErrorCause) : (errorResponse c s).clk = s.clk := rfl
@[simp] theorem errorResponse_dout (c : ErrorCause) : (errorResponse c s).dout = s.dout := rfl
@[simp] theorem errorResponse_rst (c : ErrorCause) : (errorResponse c s).rst = s.rst := rfl
@[simp] theorem errorResponse_req (c : ErrorCause) : (errorResponse c s).req = s.req := rfl
@[simp] theorem errorResponse_res (c : ErrorCause) : (errorResponse c s).res = s.res := rfl
@[simp] theorem errorResponse_hdr (c : ErrorCause) : (errorResponse c s).hdr = s.hdr := rfl
@[simp] theorem errorResponse_ack (c : ErrorCause) : (errorResponse c s).ack = s.ack := rfl
@[simp] theorem errorResponse_shift (c : ErrorCause) : (errorResponse c s).shift = s.shift := rfl
@[simp] theorem errorResponse_par (c : ErrorCause) : (errorResponse c s).par = s.par := rfl
@[simp] theorem errorResponse_perr (c : ErrorCause) : (errorResponse c s).perr = s.perr := rfl
@[simp] theorem errorResponse_cnt (c : ErrorCause) : (errorResponse c s).cnt = s.cnt := rfl
@[simp] theorem errorResponse_fsm (c : ErrorCause) : (errorResponse c s).fsm = s.fsm := rfl
@[simp] theorem errorResponse_seqCount (c : ErrorCause) : (errorResponse c s).seqCount = s.seqCount := rfl
@[simp] theorem errorResponse_seqBits (c : ErrorCause) : (errorResponse c s).seqBits = s.seqBits := rfl
@[simp] theorem errorResponse_busy (c : ErrorCause) : (errorResponse c s).busy = false := rfl
@[simp] theorem errorResponse_rp (c : ErrorCause) : (errorResponse c s).rp = s.rp := rfl
@[simp] theorem errorResponse_wp (c : ErrorCause) : (errorResponse c s).wp = s.wp := rfl
@[simp] theorem errorResponse_retryCount (c : ErrorCause) : (errorResponse c s).retryCount = s.retryCount := rfl
@[simp] theorem errorResponse_doneCount (c : ErrorCause) : (errorResponse c s).doneCount = s.doneCount := rfl
@[simp] theorem errorResponse_reqBuf (c : ErrorCause) : (errorResponse c s).reqBuf = s.reqBuf := rfl
@[simp] theorem errorResponse_reqLen (c : ErrorCause) : (errorResponse c s).reqLen = s.reqLen := rfl
@[simp] theorem errorResponse_respBuf (c : ErrorCause) : (errorResponse c s).respBuf = [(0, 0xFF)] := rfl
@[simp] theorem errorResponse_respLen (c : ErrorCause) : (errorResponse c s).respLen = 1 := rfl
@[simp] theorem errorResponse_okOut (c : ErrorCause) : (errorResponse c s).okOut = false := rfl
@[simp] theorem errorResponse_cause (c : ErrorCause) : (errorResponse c s).cause = some c := rfl
@[simp] theorem errorResponse_trace (c : ErrorCause) : (errorResponse c s).trace = s.trace := rfl
@[simp] theorem errorResponse_samples (c : ErrorCause) : (errorResponse c s).samples = s.samples := rfl
@[simp] theorem errorResponse_inputs (c : ErrorCause) : (errorResponse c s).inputs = s.inputs := rfl
@[simp] theorem errorResponse_outbox (c : ErrorCause) : (errorResponse c s).outbox = s.outbox := rfl

/-! ### returnToHost -/

@[simp] theorem returnToHost_cfg : (returnToHost s).cfg = s.cfg := rfl
@[simp] theorem returnToHost_connected : (returnToHost s).connected = s.connected := rfl
@[simp] theorem returnToHost_dir : (returnToHost s).dir = s.dir := rfl
@[simp] theorem returnToHost_clk : (returnToHost s).clk = s.clk := rfl
@[simp] theorem returnToHost_dout : (returnToHost s).dout = s.dout := rfl
@[simp] theorem returnToHost_rst : (returnToHost s).rst = s.rst := rfl
@[simp] theorem returnToHost_req : (returnToHost s).req = s.req := rfl
@[simp] theorem returnToHost_res : (returnToHost s).res = s.res := rfl
@[simp] theorem returnToHost_hdr : (returnToHost s).hdr = s.hdr := rfl
@[simp] theorem returnToHost_ack : (returnToHost s).ack = s.ack := rfl
@[simp] theorem returnToHost_shift : (returnToHost s).shift = s.shift := rfl
@[simp] theorem returnToHost_par : (returnToHost s).par = s.par := rfl
@[simp] theorem returnToHost_perr : (returnToHost s).perr = s.perr := rfl
@[simp] theorem returnToHost_cnt : (returnToHost s).cnt = s.cnt := rfl
@[simp] theorem returnToHost_fsm : (returnToHost s).fsm = s.fsm := rfl
@[simp] theorem returnToHost_seqCount : (returnToHost s).seqCount = s.seqCount := rfl
@[simp] theorem returnToHost_seqBits : (returnToHost s).seqBits = s.seqBits := rfl
@[simp] theorem returnToHost_busy : (returnToHost s).busy = false := rfl
@[simp] theorem returnToHost_rp : (returnToHost s).rp = s.rp := rfl
@[simp] theorem returnToHost_wp : (returnToHost s).wp = s.wp := rfl
@[simp] theorem returnToHost_retryCount : (returnToHost s).retryCount = s.retryCount := rfl
@[simp] theorem returnToHost_doneCount : (returnToHost s).doneCount = s.doneCount := rfl
@[simp] theorem returnToHost_reqBuf : (returnToHost s).reqBuf = s.reqBuf := rfl
@[simp] theorem returnToHost_reqLen : (returnToHost s).reqLen = s.reqLen := rfl
@[simp] theorem returnToHost_respBuf : (returnToHost s).respBuf = s.respBuf := rfl
@[simp] theorem returnToHost_respLen : (returnToHost s).respLen = s.respLen := rfl
@[simp] theorem returnToHost_okOut : (returnToHost s).okOut = s.okOut := rfl
@[simp] theorem returnToHost_cause : (returnToHost s).cause = s.cause := rfl
@[simp] theorem returnToHost_trace : (returnToHost s).trace = s.trace := rfl
@[simp] theorem returnToHost_samples : (returnToHost s).samples = s.samples := rfl
@[simp] theorem returnToHost_inputs : (returnToHost s).inputs = s.inputs := rfl
@[simp] theorem returnToHost_outbox : (returnToHost s).outbox = s.outbox ++ [⟨s.response, s.okOut⟩] := rfl

/-! ### acceptPacket -/

@[simp] theorem acceptPacket_cfg (bytes : List Byte) (rest : List Input) : (acceptPacket bytes rest s).cfg = s.cfg := rfl
@[simp] theorem acceptPacket_connected (bytes : List Byte) (rest : List Input) : (acceptPacket bytes rest s).connected = s.connected := rfl
@[simp] theorem acceptPacket_dir (bytes : List Byte) (rest : List Input) : (acceptPacket bytes rest s).dir = s.dir := rfl
@[simp] theorem acceptPacket_clk (bytes : List Byte) (rest : List Input) : (acceptPacket bytes rest s).clk = s.clk := rfl
@[simp] theorem acceptPacket_dout (bytes : List Byte) (rest : List Input) : (acceptPacket bytes rest s).dout = s.dout := rfl
@[simp] theorem acceptPacket_rst (bytes : List Byte) (rest : List Input) : (acceptPacket bytes rest s).rst = s.rst := rfl
@[simp] theorem acceptPacket_req (bytes : List Byte) (rest : List Input) : (acceptPacket bytes rest s).req = s.req := rfl
@[simp] theorem acceptPacket_res (bytes : List Byte) (rest : List Input) : (acceptPacket bytes rest s).res = s.res := rfl
@[simp] theorem acceptPacket_hdr (bytes : List Byte) (rest : List Input) : (acceptPacket bytes rest s).hdr = s.hdr := rfl
@[simp] theorem acceptPacket_ack (bytes : List Byte) (rest : List Input) : (acceptPacket bytes rest s).ack = s.ack := rfl
@[simp] theorem acceptPacket_shift (bytes : List Byte) (rest : List Input) : (acceptPacket bytes rest s).shift = s.shift := rfl
@[simp] theorem acceptPacket_par (bytes : List Byte) (rest : List Input) : (acceptPacket bytes rest s).par = s.par := rfl
@[simp] theorem acceptPacket_perr (bytes : List Byte) (rest : List Input) : (acceptPacket bytes rest s).perr = s.perr := rfl
@[simp] theorem acceptPacket_cnt (bytes : List Byte) (rest : List Input) : (acceptPacket bytes rest s).cnt = s.cnt := rfl
@[simp] theorem acceptPacket_fsm (bytes : List Byte) (rest : List Input) : (acceptPacket bytes rest s).fsm = s.fsm := rfl
@[simp] theorem acceptPacket_seqCount (bytes : List Byte) (rest : List Input) : (acceptPacket bytes rest s).seqCount = s.seqCount := rfl
@[simp] theorem acceptPacket_seqBits (bytes : List Byte) (rest : List Input) : (acceptPacket bytes rest s).seqBits = s.seqBits := rfl
@[simp] theorem acceptPacket_busy (bytes : List Byte) (rest : List Input) : (acceptPacket bytes rest s).busy = true := rfl
@[simp] theorem acceptPacket_rp (bytes : List Byte) (rest : List Input) : (acceptPacket bytes rest s).rp = s.rp := rfl
@[simp] theorem acceptPacket_wp (bytes : List Byte) (rest : List Input) : (acceptPacket bytes rest s).wp = s.wp := rfl
@[simp] theorem acceptPacket_retryCount (bytes : List Byte) (rest : List Input) : (acceptPacket bytes rest s).retryCount = s.retryCount := rfl
@[simp] theorem acceptPacket_doneCount (bytes : List Byte) (rest : List Input) : (acceptPacket bytes rest s).doneCount = s.doneCount := rfl
@[simp] theorem acceptPacket_reqBuf (bytes : List Byte) (rest : List Input) : (acceptPacket bytes rest s).reqBuf = Memory.ofBytes 0 (bytes.take 64) := rfl
@[simp] theorem acceptPacket_reqLen (bytes : List Byte) (rest : List Input) : (acceptPacket bytes rest s).reqLen = bytes.length := rfl
@[simp] theorem acceptPacket_respBuf (bytes : List Byte) (rest : List Input) : (acceptPacket bytes rest s).respBuf = s.respBuf := rfl
@[simp] theorem acceptPacket_respLen (bytes : List Byte) (rest : List Input) : (acceptPacket bytes rest s).respLen = s.respLen := rfl
@[simp] theorem acceptPacket_okOut (bytes : List Byte) (rest : List Input) : (acceptPacket bytes rest s).okOut = s.okOut := rfl
@[simp] theorem acceptPacket_cause (bytes : List Byte) (rest : List Input) : (acceptPacket bytes rest s).cause = s.cause := rfl
@[simp] theorem acceptPacket_trace (bytes : List Byte) (rest : List Input) : (acceptPacket bytes rest s).trace = s.trace := rfl
@[simp] theorem acceptPacket_samples (bytes : List Byte) (rest : List Input) : (acceptPacket bytes rest s).samples = s.samples := rfl
@[simp] theorem acceptPacket_inputs (bytes : List Byte) (rest : List Input) : (acceptPacket bytes rest s).inputs = rest := rfl
@[simp] theorem acceptPacket_outbox (bytes : List Byte) (rest : List Input) : (acceptPacket bytes rest s).outbox = s.outbox := rfl

/-! ### latchRequest -/

@[simp] theorem latchRequest_cfg (r : TransferRequest) : (latchRequest r s).cfg = s.cfg := rfl
@[simp] theorem latchRequest_connected (r : TransferRequest) : (latchRequest r s).connected = s.connected := rfl
@[simp] theorem latchRequest_dir (r : TransferRequest) : (latchRequest r s).dir = s.dir := rfl
@[simp] theorem latchRequest_clk (r : TransferRequest) : (latchRequest r s).clk = s.clk := rfl
@[simp] theorem latchRequest_dout (r : TransferRequest) : (latchRequest r s).dout = s.dout := rfl
@[simp] theorem latchRequest_rst (r : TransferRequest) : (latchRequest r s).rst = s.rst := rfl
@[simp] theorem latchRequest_req (r : TransferRequest) : (latchRequest r s).req = r := rfl
@[simp] theorem latchRequest_res (r : TransferRequest) : (latchRequest r s).res = s.res := rfl
@[simp] theorem latchRequest_hdr (r : TransferRequest) : (latchRequest r s).hdr = headerOf r := rfl
@[simp] theorem latchRequest_ack (r : TransferRequest) : (latchRequest r s).ack = s.ack := rfl
@[simp] theorem latchRequest_shift (r : TransferRequest) : (latchRequest r s).shift = s.shift := rfl
@[simp] theorem latchRequest_par (r : TransferRequest) : (latchRequest r s).par = s.par := rfl
@[simp] theorem latchRequest_perr (r : TransferRequest) : (latchRequest r s).perr = false := rfl
@[simp] theorem latchRequest_cnt (r : TransferRequest) : (latchRequest r s).cnt = s.cnt := rfl
@[simp] theorem latchRequest_fsm (r : TransferRequest) : (latchRequest r s).fsm = s.fsm := rfl
@[simp] theorem latchRequest_seqCount (r : TransferRequest) : (latchRequest r s).seqCount = s.seqCount := rfl
@[simp] theorem latchRequest_seqBits (r : TransferRequest) : (latchRequest r s).seqBits = s.seqBits := rfl
@[simp] theorem latchRequest_busy (r : TransferRequest) : (latchRequest r s).busy = s.busy := rfl
@[simp] theorem latchRequest_rp (r : TransferRequest) : (latchRequest r s).rp = s.rp := rfl
@[simp] theorem latchRequest_wp (r : TransferRequest) : (latchRequest r s).wp = s.wp := rfl
@[simp] theorem latchRequest_retryCount (r : TransferRequest) : (latchRequest r s).retryCount = s.retryCount := rfl
@[simp] theorem latchRequest_doneCount (r : TransferRequest) : (latchRequest r s).doneCount = s.doneCount := rfl
@[simp] theorem latchRequest_reqBuf (r : TransferRequest) : (latchRequest r s).reqBuf = s.reqBuf := rfl
@[simp] theorem latchRequest_reqLen (r : TransferRequest) : (latchRequest r s).reqLen = s.reqLen := rfl
@[simp] theorem latchRequest_respBuf (r : TransferRequest) : (latchRequest r s).respBuf = s.respBuf := rfl
@[simp] theorem latchRequest_respLen (r : TransferRequest) : (latchRequest r s).respLen = s.respLen := rfl
@[simp] theorem latchRequest_okOut (r : TransferRequest) : (latchRequest r s).okOut = s.okOut := rfl
@[simp] theorem latchRequest_cause (r : TransferRequest) : (latchRequest r s).cause = s.cause := rfl
@[simp] theorem latchRequest_trace (r : TransferRequest) : (latchRequest r s).trace = s.trace := rfl
@[simp] theorem latchRequest_samples (r : TransferRequest) : (latchRequest r s).samples = s.samples := rfl
@[simp] theorem latchRequest_inputs (r : TransferRequest) : (latchRequest r s).inputs = s.inputs := rfl
@[simp] theorem latchRequest_outbox (r : TransferRequest) : (latchRequest r s).outbox = s.outbox := rfl

/-! ### latchSequence -/

@[simp] theorem latchSequence_cfg (n : BitVec 32) (bits : List Byte) : (latchSequence n bits s).cfg = s.cfg := rfl
@[simp] theorem latchSequence_connected (n : BitVec 32) (bits : List Byte) : (latchSequence n bits s).connected = s.connected := rfl
@[simp] theorem latchSequence_dir (n : BitVec 32) (bits : List Byte) : (latchSequence n bits s).dir = s.dir := rfl
@[simp] theorem latchSequence_clk (n : BitVec 32) (bits : List Byte) : (latchSequence n bits s).clk = s.clk := rfl
@[simp] theorem latchSequence_dout (n : BitVec 32) (bits : List Byte) : (latchSequence n bits s).dout = s.dout := rfl
@[simp] theorem latchSequence_rst (n : BitVec 32) (bits : List Byte) : (latchSequence n bits s).rst = s.rst := rfl
@[simp] theorem latchSequence_req (n : BitVec 32) (bits : List Byte) : (latchSequence n bits s).req = s.req := rfl
@[simp] theorem latchSequence_res (n : BitVec 32) (bits : List Byte) : (latchSequence n bits s).res = s.res := rfl
@[simp] theorem latchSequence_hdr (n : BitVec 32) (bits : List Byte) : (latchSequence n bits s).hdr = s.hdr := rfl
@[simp] theorem latchSequence_ack (n : BitVec 32) (bits : List Byte) : (latchSequence n bits s).ack = s.ack := rfl
@[simp] theorem latchSequence_shift (n : BitVec 32) (bits : List Byte) : (latchSequence n bits s).shift = s.shift := rfl
@[simp] theorem latchSequence_par (n : BitVec 32) (bits : List Byte) : (latchSequence n bits s).par = s.par := rfl
@[simp] theorem latchSequence_perr (n : BitVec 32) (bits : List Byte) : (latchSequence n bits s).perr = s.perr := rfl
@[simp] theorem latchSequence_cnt (n : BitVec 32) (bits : List Byte) : (latchSequence n bits s).cnt = s.cnt := rfl
@[simp] theorem latchSequence_fsm (n : BitVec 32) (bits : List Byte) : (latchSequence n bits s).fsm = s.fsm := rfl
@[simp] theorem latchSequence_seqCount (n : BitVec 32) (bits : List Byte) : (latchSequence n bits s).seqCount = n := rfl
@[simp] theorem latchSequence_seqBits (n : BitVec 32) (bits : List Byte) : (latchSequence n bits s).seqBits = bits := rfl
@[simp] theorem latchSequence_busy (n : BitVec 32) (bits : List Byte) : (latchSequence n bits s).busy = s.busy := rfl
@[simp] theorem latchSequence_rp (n : BitVec 32) (bits : List Byte) : (latchSequence n bits s).rp = s.rp := rfl
@[simp] theorem latchSequence_wp (n : BitVec 32) (bits : List Byte) : (latchSequence n bits s).wp = s.wp := rfl
@[simp] theorem latchSequence_retryCount (n : BitVec 32) (bits : List Byte) : (latchSequence n bits s).retryCount = s.retryCount := rfl
@[simp] theorem latchSequence_doneCount (n : BitVec 32) (bits : List Byte) : (latchSequence n bits s).doneCount = s.doneCount := rfl
@[simp] theorem latchSequence_reqBuf (n : BitVec 32) (bits : List Byte) : (latchSequence n bits s).reqBuf = s.reqBuf := rfl
@[simp] theorem latchSequence_reqLen (n : BitVec 32) (bits : List Byte) : (latchSequence n bits s).reqLen = s.reqLen := rfl
@[simp] theorem latchSequence_respBuf (n : BitVec 32) (bits : List Byte) : (latchSequence n bits s).respBuf = s.respBuf := rfl
@[simp] theorem latchSequence_respLen (n : BitVec 32) (bits : List Byte) : (latchSequence n bits s).respLen = s.respLen := rfl
@[simp] theorem latchSequence_okOut (n : BitVec 32) (bits : List Byte) : (latchSequence n bits s).okOut = s.okOut := rfl
@[simp] theorem latchSequence_cause (n : BitVec 32) (bits : List Byte) : (latchSequence n bits s).cause = s.cause := rfl
@[simp] theorem latchSequence_trace (n : BitVec 32) (bits : List Byte) : (latchSequence n bits s).trace = s.trace := rfl
@[simp] theorem latchSequence_samples (n : BitVec 32) (bits : List Byte) : (latchSequence n bits s).samples = s.samples := rfl
@[simp] theorem latchSequence_inputs (n : BitVec 32) (bits : List Byte) : (latchSequence n bits s).inputs = s.inputs := rfl
@[simp] theorem latchSequence_outbox (n : BitVec 32) (bits : List Byte) : (latchSequence n bits s).outbox = s.outbox := rfl

/-! ### finishTransfer -/

@[simp] theorem finishTransfer_cfg (r : TransferResult) : (finishTransfer r s).cfg = s.cfg := rfl
@[simp] theorem finishTransfer_connected (r : TransferResult) : (finishTransfer r s).connected = s.connected := rfl
@[simp] theorem finishTransfer_dir (r : TransferResult) : (finishTransfer r s).dir = s.dir := rfl
@[simp] theorem finishTransfer_clk (r : TransferResult) : (finishTransfer r s).clk = s.clk := rfl
@[simp] theorem finishTransfer_dout (r : TransferResult) : (finishTransfer r s).dout = s.dout := rfl
@[simp] theorem finishTransfer_rst (r : TransferResult) : (finishTransfer r s).rst = s.rst := rfl
@[simp] theorem finishTransfer_req (r : TransferResult) : (finishTransfer r s).req = s.req := rfl
@[simp] theorem finishTransfer_res (r : TransferResult) : (finishTransfer r s).res = r := rfl
@[simp] theorem finishTransfer_hdr (r : TransferResult) : (finishTransfer r s).hdr = s.hdr := rfl
@[simp] theorem finishTransfer_ack (r : TransferResult) : (finishTransfer r s).ack = s.ack := rfl
@[simp] theorem finishTransfer_shift (r : TransferResult) : (finishTransfer r s).shift = s.shift := rfl
@[simp] theorem finishTransfer_par (r : TransferResult) : (finishTransfer r s).par = s.par := rfl
@[simp] theorem finishTransfer_perr (r : TransferResult) : (finishTransfer r s).perr = s.perr := rfl
@[simp] theorem finishTransfer_cnt (r : TransferResult) : (finishTransfer r s).cnt = 0 := rfl
@[simp] theorem finishTransfer_fsm (r : TransferResult) : (finishTransfer r s).fsm = .idle := rfl
@[simp] theorem finishTransfer_seqCount (r : TransferResult) : (finishTransfer r s).seqCount = s.seqCount := rfl
@[simp] theorem finishTransfer_seqBits (r : TransferResult) : (finishTransfer r s).seqBits = s.seqBits := rfl
@[simp] theorem finishTransfer_busy (r : TransferResult) : (finishTransfer r s).busy = s.busy := rfl
@[simp] theorem finishTransfer_rp (r : TransferResult) : (finishTransfer r s).rp = s.rp := rfl
@[simp] theorem finishTransfer_wp (r : TransferResult) : (finishTransfer r s).wp = s.wp := rfl
@[simp] theorem finishTransfer_retryCount (r : TransferResult) : (finishTransfer r s).retryCount = s.retryCount := rfl
@[simp] theorem finishTransfer_doneCount (r : TransferResult) : (finishTransfer r s).doneCount = s.doneCount := rfl
@[simp] theorem finishTransfer_reqBuf (r : TransferResult) : (finishTransfer r s).reqBuf = s.reqBuf := rfl
@[simp] theorem finishTransfer_reqLen (r : TransferResult) : (finishTransfer r s).reqLen = s.reqLen := rfl
@[simp] theorem finishTransfer_respBuf (r : TransferResult) : (finishTransfer r s).respBuf = s.respBuf := rfl
@[simp] theorem finishTransfer_respLen (r : TransferResult) : (finishTransfer r s).respLen = s.respLen := rfl
@[simp] theorem finishTransfer_okOut (r : TransferResult) : (finishTransfer r s).okOut = s.okOut := rfl
@[simp] theorem finishTransfer_cause (r : TransferResult) : (finishTransfer r s).cause = s.cause := rfl
@[simp] theorem finishTransfer_trace (r : TransferResult) : (finishTransfer r s).trace = s.trace := rfl
@[simp] theorem finishTransfer_samples (r : TransferResult) : (finishTransfer r s).samples = s.samples := rfl
@[simp] theorem finishTransfer_inputs (r : TransferResult) : (finishTransfer r s).inputs = s.inputs := rfl
@[simp] theorem finishTransfer_outbox (r : TransferResult) : (finishTransfer r s).outbox = s.outbox := rfl

/-! ### finishSequence -/

@[simp] theorem finishSequence_cfg : (finishSequence s).cfg = s.cfg := rfl
@[simp] theorem finishSequence_connected : (finishSequence s).connected = s.connected := rfl
@[simp] theorem finishSequence_dir : (finishSequence s).dir = s.dir := rfl
@[simp] theorem finishSequence_clk : (finishSequence s).clk = s.clk := rfl
@[simp] theorem finishSequence_dout : (finishSequence s).dout = s.dout := rfl
@[simp] theorem finishSequence_rst : (finishSequence s).rst = s.rst := rfl
@[simp] theorem finishSequence_req : (finishSequence s).req = s.req := rfl
@[simp] theorem finishSequence_res : (finishSequence s).res = s.res := rfl
@[simp] theorem finishSequence_hdr : (finishSequence s).hdr = s.hdr := rfl
@[simp] theorem finishSequence_ack : (finishSequence s).ack = s.ack := rfl
@[simp] theorem finishSequence_shift : (finishSequence s).shift = s.shift := rfl
@[simp] theorem finishSequence_par : (finishSequence s).par = s.par := rfl
@[simp] theorem finishSequence_perr : (finishSequence s).perr = s.perr := rfl
@[simp] theorem finishSequence_cnt : (finishSequence s).cnt = 0 := rfl
@[simp] theorem finishSequence_fsm : (finishSequence s).fsm = .idle := rfl
@[simp] theorem finishSequence_seqCount : (finishSequence s).seqCount = s.seqCount := rfl
@[simp] theorem finishSequence_seqBits : (finishSequence s).seqBits = s.seqBits := rfl
@[simp] theorem finishSequence_busy : (finishSequence s).busy = s.busy := rfl
@[simp] theorem finishSequence_rp : (finishSequence s).rp = s.rp := rfl
@[simp] theorem finishSequence_wp : (finishSequence s).wp = s.wp := rfl
@[simp] theorem finishSequence_retryCount : (finishSequence s).retryCount = s.retryCount := rfl
@[simp] theorem finishSequence_doneCount : (finishSequence s).doneCount = s.doneCount := rfl
@[simp] theorem finishSequence_reqBuf : (finishSequence s).reqBuf = s.reqBuf := rfl
@[simp] theorem finishSequence_reqLen : (finishSequence s).reqLen = s.reqLen := rfl
@[simp] theorem finishSequence_respBuf : (finishSequence s).respBuf = s.respBuf := rfl
@[simp] theorem finishSequence_respLen : (finishSequence s).respLen = s.respLen := rfl
@[simp] theorem finishSequence_okOut : (finishSequence s).okOut = s.okOut := rfl
@[simp] theorem finishSequence_cause : (finishSequence s).cause = s.cause := rfl
@[simp] theorem finishSequence_trace : (finishSequence s).trace = s.trace := rfl
@[simp] theorem finishSequence_samples : (finishSequence s).samples = s.samples := rfl
@[simp] theorem finishSequence_inputs : (finishSequence s).inputs = s.inputs := rfl
@[simp] theorem finishSequence_outbox : (finishSequence s).outbox = s.outbox := rfl

/-! ### enterPhase -/

@[simp] theorem enterPhase_cfg (f : Fsm) : (enterPhase f s).cfg = s.cfg := rfl
@[simp] theorem enterPhase_connected (f : Fsm) : (enterPhase f s).connected = s.connected := rfl
@[simp] theorem enterPhase_dir (f : Fsm) : (enterPhase f s).dir = s.dir := rfl
@[simp] theorem enterPhase_clk (f : Fsm) : (enterPhase f s).clk = s.clk := rfl
@[simp] theorem enterPhase_dout (f : Fsm) : (enterPhase f s).dout = s.dout := rfl
@[simp] theorem enterPhase_rst (f : Fsm) : (enterPhase f s).rst = s.rst := rfl
@[simp] theorem enterPhase_req (f : Fsm) : (enterPhase f s).req = s.req := rfl
@[simp] theorem enterPhase_res (f : Fsm) : (enterPhase f s).res = s.res := rfl
@[simp] theorem enterPhase_hdr (f : Fsm) : (enterPhase f s).hdr = s.hdr := rfl
@[simp] theorem enterPhase_ack (f : Fsm) : (enterPhase f s).ack = s.ack := rfl
@[simp] theorem enterPhase_shift (f : Fsm) : (enterPhase f s).shift = s.shift := rfl
@[simp] theorem enterPhase_par (f : Fsm) : (enterPhase f s).par = s.par := rfl
@[simp] theorem enterPhase_perr (f : Fsm) : (enterPhase f s).perr = s.perr := rfl
@[simp] theorem enterPhase_cnt (f : Fsm) : (enterPhase f s).cnt = 0 := rfl
@[simp] theorem enterPhase_fsm (f : Fsm) : (enterPhase f s).fsm = f := rfl
@[simp] theorem enterPhase_seqCount (f : Fsm) : (enterPhase f s).seqCount = s.seqCount := rfl
@[simp] theorem enterPhase_seqBits (f : Fsm) : (enterPhase f s).seqBits = s.seqBits := rfl
@[simp] theorem enterPhase_busy (f : Fsm) : (enterPhase f s).busy = s.busy := rfl
@[simp] theorem enterPhase_rp (f : Fsm) : (enterPhase f s).rp = s.rp := rfl
@[simp] theorem enterPhase_wp (f : Fsm) : (enterPhase f s).wp = s.wp := rfl
@[simp] theorem enterPhase_retryCount (f : Fsm) : (enterPhase f s).retryCount = s.retryCount := rfl
@[simp] theorem enterPhase_doneCount (f : Fsm) : (enterPhase f s).doneCount = s.doneCount := rfl
@[simp] theorem enterPhase_reqBuf (f : Fsm) : (enterPhase f s).reqBuf = s.reqBuf := rfl
@[simp] theorem enterPhase_reqLen (f : Fsm) : (enterPhase f s).reqLen = s.reqLen := rfl
@[simp] theorem enterPhase_respBuf (f : Fsm) : (enterPhase f s).respBuf = s.respBuf := rfl
@[simp] theorem enterPhase_respLen (f : Fsm) : (enterPhase f s).respLen = s.respLen := rfl
@[simp] theorem enterPhase_okOut (f : Fsm) : (enterPhase f s).okOut = s.okOut := rfl
@[simp] theorem enterPhase_cause (f : Fsm) : (enterPhase f s).cause = s.cause := rfl
@[simp] theorem enterPhase_trace (f : Fsm) : (enterPhase f s).trace = s.trace := rfl
@[simp] theorem enterPhase_samples (f : Fsm) : (enterPhase f s).samples = s.samples := rfl
@[simp] theorem enterPhase_inputs (f : Fsm) : (enterPhase f s).inputs = s.inputs := rfl
@[simp] theorem enterPhase_outbox (f : Fsm) : (enterPhase f s).outbox = s.outbox := rfl

/-! ### countCycle -/

@[simp] theorem countCycle_cfg : (countCycle s).cfg = s.cfg := rfl
@[simp] theorem countCycle_connected : (countCycle s).connected = s.connected := rfl
@[simp] theorem countCycle_dir : (countCycle s).dir = s.dir := rfl
@[simp] theorem countCycle_clk : (countCycle s).clk = s.clk := rfl
@[simp] theorem countCycle_dout : (countCycle s).dout = s.dout := rfl
@[simp] theorem countCycle_rst : (countCycle s).rst = s.rst := rfl
@[simp] theorem countCycle_req : (countCycle s).req = s.req := rfl
@[simp] theorem countCycle_res : (countCycle s).res = s.res := rfl
@[simp] theorem countCycle_hdr : (countCycle s).hdr = s.hdr := rfl
@[simp] theorem countCycle_ack : (countCycle s).ack = s.ack := rfl
@[simp] theorem countCycle_shift : (countCycle s).shift = s.shift := rfl
@[simp] theorem countCycle_par : (countCycle s).par = s.par := rfl
@[simp] theorem countCycle_perr : (countCycle s).perr = s.perr := rfl
@[simp] theorem countCycle_cnt : (countCycle s).cnt = s.cnt + 1 := rfl
@[simp] theorem countCycle_fsm : (countCycle s).fsm = s.fsm := rfl
@[simp] theorem countCycle_seqCount : (countCycle s).seqCount = s.seqCount := rfl
@[simp] theorem countCycle_seqBits : (countCycle s).seqBits = s.seqBits := rfl
@[simp] theorem countCycle_busy : (countCycle s).busy = s.busy := rfl
@[simp] theorem countCycle_rp : (countCycle s).rp = s.rp := rfl
@[simp] theorem countCycle_wp : (countCycle s).wp = s.wp := rfl
@[simp] theorem countCycle_retryCount : (countCycle s).retryCount = s.retryCount := rfl
@[simp] theorem countCycle_doneCount : (countCycle s).doneCount = s.doneCount := rfl
@[simp] theorem countCycle_reqBuf : (countCycle s).reqBuf = s.reqBuf := rfl
@[simp] theorem countCycle_reqLen : (countCycle s).reqLen = s.reqLen := rfl
@[simp] theorem countCycle_respBuf : (countCycle s).respBuf = s.respBuf := rfl
@[simp] theorem countCycle_respLen : (countCycle s).respLen = s.respLen := rfl
@[simp] theorem countCycle_okOut : (countCycle s).okOut = s.okOut := rfl
@[simp] theorem countCycle_cause : (countCycle s).cause = s.cause := rfl
@[simp] theorem countCycle_trace : (countCycle s).trace = s.trace := rfl
@[simp] theorem countCycle_samples : (countCycle s).samples = s.samples := rfl
@[simp] theorem countCycle_inputs : (countCycle s).inputs = s.inputs := rfl
@[simp] theorem countCycle_outbox : (countCycle s).outbox = s.outbox := rfl

/-! ### setRequestValue -/

@[simp] theorem setRequestValue_cfg (v : Word) : (setRequestValue v s).cfg = s.cfg := rfl
@[simp] theorem setRequestValue_connected (v : Word) : (setRequestValue v s).connected = s.connected := rfl
@[simp] theorem setRequestValue_dir (v : Word) : (setRequestValue v s).dir = s.dir := rfl
@[simp] theorem setRequestValue_clk (v : Word) : (setRequestValue v s).clk = s.clk := rfl
@[simp] theorem setRequestValue_dout (v : Word) : (setRequestValue v s).dout = s.dout := rfl
@[simp] theorem setRequestValue_rst (v : Word) : (setRequestValue v s).rst = s.rst := rfl
@[simp] theorem setRequestValue_req (v : Word) : (setRequestValue v s).req = { s.req with value := v } := rfl
@[simp] theorem setRequestValue_res (v : Word) : (setRequestValue v s).res = s.res := rfl
@[simp] theorem setRequestValue_hdr (v : Word) : (setRequestValue v s).hdr = s.hdr := rfl
@[simp] theorem setRequestValue_ack (v : Word) : (setRequestValue v s).ack = s.ack := rfl
@[simp] theorem setRequestValue_shift (v : Word) : (setRequestValue v s).shift = s.shift := rfl
@[simp] theorem setRequestValue_par (v : Word) : (setRequestValue v s).par = s.par := rfl
@[simp] theorem setRequestValue_perr (v : Word) : (setRequestValue v s).perr = s.perr := rfl
@[simp] theorem setRequestValue_cnt (v : Word) : (setRequestValue v s).cnt = s.cnt := rfl
@[simp] theorem setRequestValue_fsm (v : Word) : (setRequestValue v s).fsm = s.fsm := rfl
@[simp] theorem setRequestValue_seqCount (v : Word) : (setRequestValue v s).seqCount = s.seqCount := rfl
@[simp] theorem setRequestValue_seqBits (v : Word) : (setRequestValue v s).seqBits = s.seqBits := rfl
@[simp] theorem setRequestValue_busy (v : Word) : (setRequestValue v s).busy = s.busy := rfl
@[simp] theorem setRequestValue_rp (v : Word) : (setRequestValue v s).rp = s.rp := rfl
@[simp] theorem setRequestValue_wp (v : Word) : (setRequestValue v s).wp = s.wp := rfl
@[simp] theorem setRequestValue_retryCount (v : Word) : (setRequestValue v s).retryCount = s.retryCount := rfl
@[simp] theorem setRequestValue_doneCount (v : Word) : (setRequestValue v s).doneCount = s.doneCount := rfl
@[simp] theorem setRequestValue_reqBuf (v : Word) : (setRequestValue v s).reqBuf = s.reqBuf := rfl
@[simp] theorem setRequestValue_reqLen (v : Word) : (setRequestValue v s).reqLen = s.reqLen := rfl
@[simp] theorem setRequestValue_respBuf (v : Word) : (setRequestValue v s).respBuf = s.respBuf := rfl
@[simp] theorem setRequestValue_respLen (v : Word) : (setRequestValue v s).respLen = s.respLen := rfl
@[simp] theorem setRequestValue_okOut (v : Word) : (setRequestValue v s).okOut = s.okOut := rfl
@[simp] theorem setRequestValue_cause (v : Word) : (setRequestValue v s).cause = s.cause := rfl
@[simp] theorem setRequestValue_trace (v : Word) : (setRequestValue v s).trace = s.trace := rfl
@[simp] theorem setRequestValue_samples (v : Word) : (setRequestValue v s).samples = s.samples := rfl
@[simp] theorem setRequestValue_inputs (v : Word) : (setRequestValue v s).inputs = s.inputs := rfl
@[simp] theorem setRequestValue_outbox (v : Word) : (setRequestValue v s).outbox = s.outbox := rfl

/-! ### writeBit -/

@[simp] theorem writeBit_cfg (b : Bool) : (writeBit b s).cfg = s.cfg := rfl
@[simp] theorem writeBit_connected (b : Bool) : (writeBit b s).connected = s.connected := rfl
@[simp] theorem writeBit_dir (b : Bool) : (writeBit b s).dir = s.dir := rfl
@[simp] theorem writeBit_clk (b : Bool) : (writeBit b s).clk = true := rfl
@[simp] theorem writeBit_dout (b : Bool) : (writeBit b s).dout = b := rfl
@[simp] theorem writeBit_rst (b : Bool) : (writeBit b s).rst = s.rst := rfl
@[simp] theorem writeBit_req (b : Bool) : (writeBit b s).req = s.req := rfl
@[simp] theorem writeBit_res (b : Bool) : (writeBit b s).res = s.res := rfl
@[simp] theorem writeBit_hdr (b : Bool) : (writeBit b s).hdr = s.hdr := rfl
@[simp] theorem writeBit_ack (b : Bool) : (writeBit b s).ack = s.ack := rfl
@[simp] theorem writeBit_shift (b : Bool) : (writeBit b s).shift = s.shift := rfl
@[simp] theorem writeBit_par (b : Bool) : (writeBit b s).par = s.par := rfl
@[simp] theorem writeBit_perr (b : Bool) : (writeBit b s).perr = s.perr := rfl
@[simp] theorem writeBit_cnt (b : Bool) : (writeBit b s).cnt = s.cnt := rfl
@[simp] theorem writeBit_fsm (b : Bool) : (writeBit b s).fsm = s.fsm := rfl
@[simp] theorem writeBit_seqCount (b : Bool) : (writeBit b s).seqCount = s.seqCount := rfl
@[simp] theorem writeBit_seqBits (b : Bool) : (writeBit b s).seqBits = s.seqBits := rfl
@[simp] theorem writeBit_busy (b : Bool) : (writeBit b s).busy = s.busy := rfl
@[simp] theorem writeBit_rp (b : Bool) : (writeBit b s).rp = s.rp := rfl
@[simp] theorem writeBit_wp (b : Bool) : (writeBit b s).wp = s.wp := rfl
@[simp] theorem writeBit_retryCount (b : Bool) : (writeBit b s).retryCount = s.retryCount := rfl
@[simp] theorem writeBit_doneCount (b : Bool) : (writeBit b s).doneCount = s.doneCount := rfl
@[simp] theorem writeBit_reqBuf (b : Bool) : (writeBit b s).reqBuf = s.reqBuf := rfl
@[simp] theorem writeBit_reqLen (b : Bool) : (writeBit b s).reqLen = s.reqLen := rfl
@[simp] theorem writeBit_respBuf (b : Bool) : (writeBit b s).respBuf = s.respBuf := rfl
@[simp] theorem writeBit_respLen (b : Bool) : (writeBit b s).respLen = s.respLen := rfl
@[simp] theorem writeBit_okOut (b : Bool) : (writeBit b s).okOut = s.okOut := rfl
@[simp] theorem writeBit_cause (b : Bool) : (writeBit b s).cause = s.cause := rfl
@[simp] theorem writeBit_trace (b : Bool) : (writeBit b s).trace = .delay :: .setClock true :: .delay :: .setClock false :: .setData b :: s.trace := rfl
@[simp] theorem writeBit_samples (b : Bool) : (writeBit b s).samples = s.samples := rfl
@[simp] theorem writeBit_inputs (b : Bool) : (writeBit b s).inputs = s.inputs := rfl
@[simp] theorem writeBit_outbox (b : Bool) : (writeBit b s).outbox = s.outbox := rfl

/-! ### readBit -/

@[simp] theorem readBit_cfg : (readBit s).cfg = s.cfg := rfl
@[simp] theorem readBit_connected : (readBit s).connected = s.connected := rfl
@[simp] theorem readBit_dir : (readBit s).dir = s.dir := rfl
@[simp] theorem readBit_clk : (readBit s).clk = true := rfl
@[simp] theorem readBit_dout : (readBit s).dout = s.dout := rfl
@[simp] theorem readBit_rst : (readBit s).rst = s.rst := rfl
@[simp] theorem readBit_req : (readBit s).req = s.req := rfl
@[simp] theorem readBit_res : (readBit s).res = s.res := rfl
@[simp] theorem readBit_hdr : (readBit s).hdr = s.hdr := rfl
@[simp] theorem readBit_ack : (readBit s).ack = s.ack := rfl
@[simp] theorem readBit_shift : (readBit s).shift = s.shift := rfl
@[simp] theorem readBit_par : (readBit s).par = s.par := rfl
@[simp] theorem readBit_perr : (readBit s).perr = s.perr := rfl
@[simp] theorem readBit_cnt : (readBit s).cnt = s.cnt := rfl
@[simp] theorem readBit_fsm : (readBit s).fsm = s.fsm := rfl
@[simp] theorem readBit_seqCount : (readBit s).seqCount = s.seqCount := rfl
@[simp] theorem readBit_seqBits : (readBit s).seqBits = s.seqBits := rfl
@[simp] theorem readBit_busy : (readBit s).busy = s.busy := rfl
@[simp] theorem readBit_rp : (readBit s).rp = s.rp := rfl
@[simp] theorem readBit_wp : (readBit s).wp = s.wp := rfl
@[simp] theorem readBit_retryCount : (readBit s).retryCount = s.retryCount := rfl
@[simp] theorem readBit_doneCount : (readBit s).doneCount = s.doneCount := rfl
@[simp] theorem readBit_reqBuf : (readBit s).reqBuf = s.reqBuf := rfl
@[simp] theorem readBit_reqLen : (readBit s).reqLen = s.reqLen := rfl
@[simp] theorem readBit_respBuf : (readBit s).respBuf = s.respBuf := rfl
@[simp] theorem readBit_respLen : (readBit s).respLen = s.respLen := rfl
@[simp] theorem readBit_okOut : (readBit s).okOut = s.okOut := rfl
@[simp] theorem readBit_cause : (readBit s).cause = s.cause := rfl
@[simp] theorem readBit_trace : (readBit s).trace = .delay :: .setClock true :: .getData (sampledBit s) :: .delay :: .setClock false :: s.trace := rfl
@[simp] theorem readBit_samples : (readBit s).samples = s.samples.tail := rfl
@[simp] theorem readBit_inputs : (readBit s).inputs = s.inputs := rfl
@[simp] theorem readBit_outbox : (readBit s).outbox = s.outbox := rfl

/-! ### turnCycle -/

@[simp] theorem turnCycle_cfg : (turnCycle s).cfg = s.cfg := rfl
@[simp] theorem turnCycle_connected : (turnCycle s).connected = s.connected := rfl
@[simp] theorem turnCycle_dir : (turnCycle s).dir = s.dir := rfl
@[simp] theorem turnCycle_clk : (turnCycle s).clk = true := rfl
@[simp] theorem turnCycle_dout : (turnCycle s).dout = s.dout := rfl
@[simp] theorem turnCycle_rst : (turnCycle s).rst = s.rst := rfl
@[simp] theorem turnCycle_req : (turnCycle s).req = s.req := rfl
@[simp] theorem turnCycle_res : (turnCycle s).res = s.res := rfl
@[simp] theorem turnCycle_hdr : (turnCycle s).hdr = s.hdr := rfl
@[simp] theorem turnCycle_ack : (turnCycle s).ack = s.ack := rfl
@[simp] theorem turnCycle_shift : (turnCycle s).shift = s.shift := rfl
@[simp] theorem turnCycle_par : (turnCycle s).par = s.par := rfl
@[simp] theorem turnCycle_perr : (turnCycle s).perr = s.perr := rfl
@[simp] theorem turnCycle_cnt : (turnCycle s).cnt = s.cnt := rfl
@[simp] theorem turnCycle_fsm : (turnCycle s).fsm = s.fsm := rfl
@[simp] theorem turnCycle_seqCount : (turnCycle s).seqCount = s.seqCount := rfl
@[simp] theorem turnCycle_seqBits : (turnCycle s).seqBits = s.seqBits := rfl
@[simp] theorem turnCycle_busy : (turnCycle s).busy = s.busy := rfl
@[simp] theorem turnCycle_rp : (turnCycle s).rp = s.rp := rfl
@[simp] theorem turnCycle_wp : (turnCycle s).wp = s.wp := rfl
@[simp] theorem turnCycle_retryCount : (turnCycle s).retryCount = s.retryCount := rfl
@[simp] theorem turnCycle_doneCount : (turnCycle s).doneCount = s.doneCount := rfl
@[simp] theorem turnCycle_reqBuf : (turnCycle s).reqBuf = s.reqBuf := rfl
@[simp] theorem turnCycle_reqLen : (turnCycle s).reqLen = s.reqLen := rfl
@[simp] theorem turnCycle_respBuf : (turnCycle s).respBuf = s.respBuf := rfl
@[simp] theorem turnCycle_respLen : (turnCycle s).respLen = s.respLen := rfl
@[simp] theorem turnCycle_okOut : (turnCycle s).okOut = s.okOut := rfl
@[simp] theorem turnCycle_cause : (turnCycle s).cause = s.cause := rfl
@[simp] theorem turnCycle_trace : (turnCycle s).trace = .delay :: .setClock true :: .delay :: .setClock false :: s.trace := rfl
@[simp] theorem turnCycle_samples : (turnCycle s).samples = s.samples := rfl
@[simp] theorem turnCycle_inputs : (turnCycle s).inputs = s.inputs := rfl
@[simp] theorem turnCycle_outbox : (turnCycle s).outbox = s.outbox := rfl

end Sys2Proof.Machine
end

