-- ==== Sys2Proof/Laws/Memory.lean ====
section
/-! SUPPORT. The laws of the buffers: read after write, the canonical form is kept, two canonical buffers that read the
same are equal, and what `RespWrite` leaves. -/

namespace Sys2Proof.Machine

/-! ### The canonical form -/

/-- `rising` says: strictly above the bound, strictly rising, below 64. -/
theorem rising_some_cons (lo a : Nat) (b : Byte) (m : Memory) :
    Memory.rising (some lo) ((a, b) :: m) = true ↔ lo < a ∧ a < 64 ∧ Memory.rising (some a) m = true := by
  simp [Memory.rising, and_assoc]

theorem rising_none_cons (a : Nat) (b : Byte) (m : Memory) :
    Memory.rising none ((a, b) :: m) = true ↔ a < 64 ∧ Memory.rising (some a) m = true := by
  simp [Memory.rising]

theorem rising_none_of_some {lo : Nat} {m : Memory} (h : Memory.rising (some lo) m = true) : Memory.wf m = true := by
  cases m with
  | nil => rfl
  | cons c m => exact (rising_none_cons c.1 c.2 m).2 ((rising_some_cons lo c.1 c.2 m).1 h).2

theorem rising_insert (m : Memory) (lo a : Nat) (b : Byte) (hm : Memory.rising (some lo) m = true) (hlo : lo < a)
    (ha : a < 64) : Memory.rising (some lo) (Memory.insert m a b) = true := by
  induction m generalizing lo with
  | nil => exact (rising_some_cons _ _ _ _).2 ⟨hlo, ha, rfl⟩
  | cons c m ih =>
    obtain ⟨h1, h2, h3⟩ := (rising_some_cons _ _ _ _).1 hm
    unfold Memory.insert
    split
    · next h => exact (rising_some_cons _ _ _ _).2 ⟨hlo, ha, (rising_some_cons _ _ _ _).2 ⟨h, h2, h3⟩⟩
    · split
      · next h => exact (rising_some_cons _ _ _ _).2 ⟨hlo, ha, h ▸ h3⟩
      · exact (rising_some_cons _ _ _ _).2 ⟨h1, h2, ih c.1 h3 (by omega)⟩

/-- Inserting keeps the canonical form. -/
theorem wf_insert (m : Memory) (a : Nat) (b : Byte) (hm : Memory.wf m = true) (ha : a < 64) :
    Memory.wf (Memory.insert m a b) = true := by
  cases m with
  | nil => exact (rising_none_cons _ _ _).2 ⟨ha, rfl⟩
  | cons c m =>
    obtain ⟨h2, h3⟩ := (rising_none_cons c.1 c.2 m).1 hm
    unfold Memory.insert
    split
    · next h => exact (rising_none_cons _ _ _).2 ⟨ha, (rising_some_cons _ _ _ _).2 ⟨h, h2, h3⟩⟩
    · split
      · next h => exact (rising_none_cons _ _ _).2 ⟨ha, h ▸ h3⟩
      · exact (rising_none_cons _ _ _).2 ⟨h2, rising_insert m c.1 a b h3 (by omega) ha⟩

/-- Writing keeps the canonical form. -/
theorem wf_write (m : Memory) (a : Nat) (b : Byte) (hm : Memory.wf m = true) :
    Memory.wf (Memory.write m a b) = true := by
  unfold Memory.write
  split
  · next h => exact wf_insert m a b hm h
  · exact hm

theorem rising_ofBytes (bs : List Byte) (a lo : Nat) (hlo : lo < a) (h : a + bs.length ≤ 64) :
    Memory.rising (some lo) (Memory.ofBytes a bs) = true := by
  induction bs generalizing a lo with
  | nil => rfl
  | cons b bs ih =>
    rw [List.length_cons] at h
    exact (rising_some_cons _ _ _ _).2 ⟨hlo, by omega, ih (a + 1) a (by omega) (by omega)⟩

/-- A byte sequence that fits is a canonical buffer. -/
theorem wf_ofBytes (bs : List Byte) (a : Nat) (h : a + bs.length ≤ 64) : Memory.wf (Memory.ofBytes a bs) = true := by
  cases bs with
  | nil => rfl
  | cons b bs =>
    rw [List.length_cons] at h
    exact (rising_none_cons _ _ _).2 ⟨by omega, rising_ofBytes bs (a + 1) a (by omega) (by omega)⟩

/-! ### Reading -/

@[simp] theorem read_nil (a : Nat) : Memory.read [] a = none := rfl

theorem read_cons (c a : Nat) (x : Byte) (m : Memory) :
    Memory.read ((c, x) :: m) a = if c = a then some x else Memory.read m a := rfl

/-- Nothing is read at or below the bound of a rising buffer. -/
theorem read_eq_none_of_le {m : Memory} {lo a : Nat} (hm : Memory.rising (some lo) m = true) (h : a ≤ lo) :
    Memory.read m a = none := by
  induction m generalizing lo with
  | nil => rfl
  | cons c m ih =>
    obtain ⟨h1, -, h3⟩ := (rising_some_cons _ _ _ _).1 hm
    rw [read_cons, if_neg (by omega)]
    exact ih h3 (by omega)

/-- What an insertion reads: the byte at its offset, and everything else as before. -/
theorem read_insert (m : Memory) (a k : Nat) (b : Byte) :
    Memory.read (Memory.insert m a b) k = if a = k then some b else Memory.read m k := by
  induction m with
  | nil => rfl
  | cons c m ih =>
    obtain ⟨c, x⟩ := c
    unfold Memory.insert
    split
    · rfl
    · split
      · next h =>
        subst h
        rw [read_cons, read_cons]
        split <;> rfl
      · next h1 h2 =>
        rw [read_cons, read_cons, ih]
        by_cases hc : c = k
        · rw [if_pos hc, if_neg (by omega), if_pos hc]
        · rw [if_neg hc, if_neg hc]

/-- What a write reads. -/
theorem read_write (m : Memory) (a k : Nat) (b : Byte) (ha : a < 64) :
    Memory.read (Memory.write m a b) k = if a = k then some b else Memory.read m k := by
  rw [Memory.write, if_pos (show a < Config.respCap from ha), read_insert]

theorem read_write_same (m : Memory) (a : Nat) (b : Byte) (ha : a < 64) :
    Memory.read (Memory.write m a b) a = some b := by rw [read_write m a a b ha, if_pos rfl]

theorem read_write_other (m : Memory) (a k : Nat) (b : Byte) (hk : a ≠ k) :
    Memory.read (Memory.write m a b) k = Memory.read m k := by
  unfold Memory.write
  split
  · rw [read_insert, if_neg hk]
  · rfl

theorem read_ofBytes (bs : List Byte) (a k : Nat) :
    Memory.read (Memory.ofBytes a bs) k = if a ≤ k then bs[k - a]? else none := by
  induction bs generalizing a with
  | nil => simp [Memory.ofBytes]
  | cons b bs ih =>
    rw [Memory.ofBytes, read_cons, ih]
    by_cases h : a = k
    · subst h; simp
    · by_cases h' : a ≤ k
      · rw [if_neg h, if_pos (by omega), if_pos h', show k - a = k - (a + 1) + 1 from by omega,
          List.getElem?_cons_succ]
      · rw [if_neg h, if_neg (by omega), if_neg h']

/-- Two buffers that read the same agree in their first entry and in what the rest reads. -/
theorem cons_eq_of_read {m m' : Memory} {c c' : Nat} {x x' : Byte} (hm : Memory.rising (some c) m = true)
    (hm' : Memory.rising (some c') m' = true)
    (h : ∀ a, Memory.read ((c, x) :: m) a = Memory.read ((c', x') :: m') a) :
    c = c' ∧ x = x' ∧ ∀ a, Memory.read m a = Memory.read m' a := by
  have hc : c = c' := by
    rcases Nat.lt_trichotomy c c' with hlt | heq | hgt
    · have := h c
      rw [read_cons, read_cons, if_pos rfl, if_neg (by omega), read_eq_none_of_le hm' (by omega)] at this
      cases this
    · exact heq
    · have := h c'
      rw [read_cons, read_cons, if_neg (by omega), if_pos rfl, read_eq_none_of_le hm (by omega)] at this
      cases this
  subst hc
  refine ⟨rfl, by simpa [read_cons] using h c, fun a => ?_⟩
  by_cases ha : a ≤ c
  · rw [read_eq_none_of_le hm ha, read_eq_none_of_le hm' ha]
  · have := h a
    rwa [read_cons, read_cons, if_neg (by omega), if_neg (by omega)] at this

/-- An empty buffer and another that reads the same. -/
theorem nil_eq_of_read {m : Memory} (h : ∀ a, Memory.read [] a = Memory.read m a) : [] = m := by
  cases m with
  | nil => rfl
  | cons c m =>
    obtain ⟨c, x⟩ := c
    simpa [read_cons] using h c

theorem eq_of_read_rising {m m' : Memory} {lo : Nat} (hm : Memory.rising (some lo) m = true)
    (hm' : Memory.rising (some lo) m' = true) (h : ∀ a, Memory.read m a = Memory.read m' a) : m = m' := by
  induction m generalizing m' lo with
  | nil => exact nil_eq_of_read h
  | cons c m ih =>
    cases m' with
    | nil => exact (nil_eq_of_read fun a => (h a).symm).symm
    | cons c' m' =>
      obtain ⟨c, x⟩ := c
      obtain ⟨c', x'⟩ := c'
      have h3 := ((rising_some_cons _ _ _ _).1 hm).2.2
      have h3' := ((rising_some_cons _ _ _ _).1 hm').2.2
      obtain ⟨rfl, rfl, ht⟩ := cons_eq_of_read h3 h3' h
      rw [ih h3 h3' ht]

/-- Two canonical buffers that read the same are the same data. -/
theorem eq_of_read {m m' : Memory} (hm : Memory.wf m = true) (hm' : Memory.wf m' = true)
    (h : ∀ a, Memory.read m a = Memory.read m' a) : m = m' := by
  cases m with
  | nil => exact nil_eq_of_read h
  | cons c m =>
    cases m' with
    | nil => exact (nil_eq_of_read fun a => (h a).symm).symm
    | cons c' m' =>
      obtain ⟨c, x⟩ := c
      obtain ⟨c', x'⟩ := c'
      have h3 := ((rising_none_cons _ _ _).1 hm).2
      have h3' := ((rising_none_cons _ _ _).1 hm').2
      obtain ⟨rfl, rfl, ht⟩ := cons_eq_of_read h3 h3' h
      rw [eq_of_read_rising h3 h3' ht]

/-- The bytes of a buffer loaded with a sequence are the sequence. -/
theorem bytes_ofBytes (bs : List Byte) : Memory.bytes (Memory.ofBytes 0 bs) bs.length = bs := by
  have h : ∀ n, n ≤ bs.length → (List.range n).filterMap (Memory.read (Memory.ofBytes 0 bs)) = bs.take n := by
    intro n
    induction n with
    | zero => simp
    | succ n ih =>
      intro hn
      rw [List.range_succ, List.filterMap_append, ih (by omega), List.take_add_one]
      congr 1
      rw [List.filterMap_cons, read_ofBytes, if_pos (Nat.zero_le n), Nat.sub_zero,
        List.getElem?_eq_getElem (by omega)]
      rfl
  rw [Memory.bytes, h _ (Nat.le_refl _), List.take_length]

/-! ### `RespWrite` -/

/-- `RespWrite` changes the response buffer alone. -/
theorem respWriteBytes_eq (bs : List Byte) (off : Nat) (s : State) :
    s.respWriteBytes off bs = { s with respBuf := (s.respWriteBytes off bs).respBuf } := by
  induction bs generalizing off s with
  | nil => rfl
  | cons b bs ih =>
    unfold State.respWriteBytes
    rw [ih]

theorem respWrite_eq (off n v : Nat) (s : State) :
    s.respWrite off n v = { s with respBuf := (s.respWrite off n v).respBuf } := respWriteBytes_eq _ _ _

theorem respWriteBytes_wf (bs : List Byte) (off : Nat) (s : State) (h : Memory.wf s.respBuf = true) :
    Memory.wf (s.respWriteBytes off bs).respBuf = true := by
  induction bs generalizing off s with
  | nil => exact h
  | cons b bs ih => exact ih _ _ (wf_write _ _ _ h)

/-- `RespWrite` keeps the canonical form. -/
theorem respWrite_wf (off n v : Nat) (s : State) (h : Memory.wf s.respBuf = true) :
    Memory.wf (s.respWrite off n v).respBuf = true := respWriteBytes_wf _ _ _ h

/-- What a write of bytes inside the buffer reads. -/
theorem read_respWriteBytes (bs : List Byte) (off k : Nat) (s : State) (h : off + bs.length ≤ 64) :
    Memory.read (s.respWriteBytes off bs).respBuf k =
      if off ≤ k ∧ k < off + bs.length then bs[k - off]? else Memory.read s.respBuf k := by
  induction bs generalizing off s with
  | nil => simp [State.respWriteBytes]
  | cons b bs ih =>
    rw [List.length_cons] at h
    rw [State.respWriteBytes, ih _ _ (by omega), List.length_cons]
    by_cases h1 : off = k
    · subst h1
      rw [if_neg (by omega), if_pos (by omega), read_write_same _ _ _ (by omega)]
      simp
    · by_cases h2 : off + 1 ≤ k ∧ k < off + 1 + bs.length
      · rw [if_pos h2, if_pos (by omega), show k - off = k - (off + 1) + 1 from by omega, List.getElem?_cons_succ]
      · rw [if_neg h2, if_neg (by omega), read_write_other _ _ _ _ h1]

@[simp] theorem leBytes_length (n v : Nat) : (leBytes n v).length = n := by
  induction n generalizing v with
  | zero => rfl
  | succ n ih => simp [leBytes, ih]

/-- What `RespWrite(off, n, v)` reads: byte `i` of `v` at `off + i` (20_memory.md R45). -/
theorem read_respWrite (off n v k : Nat) (s : State) (h : off + n ≤ 64) :
    Memory.read (s.respWrite off n v).respBuf k =
      if off ≤ k ∧ k < off + n then (leBytes n v)[k - off]? else Memory.read s.respBuf k := by
  have := read_respWriteBytes (leBytes n v) off k s (by simpa using h)
  simpa [State.respWrite] using this

/-- Appending to a response that is written without gaps. -/
theorem respWriteBytes_append (pre bs : List Byte) (s : State) (h : s.respBuf = Memory.ofBytes 0 pre)
    (hlen : pre.length + bs.length ≤ 64) :
    (s.respWriteBytes pre.length bs).respBuf = Memory.ofBytes 0 (pre ++ bs) := by
  refine eq_of_read (respWriteBytes_wf _ _ _ (h ▸ wf_ofBytes _ _ (by omega)))
    (wf_ofBytes _ _ (by simp; omega)) fun a => ?_
  rw [read_respWriteBytes _ _ _ _ hlen, h, read_ofBytes, read_ofBytes, if_pos (Nat.zero_le a),
    if_pos (Nat.zero_le a), Nat.sub_zero]
  split
  · next h1 => rw [List.getElem?_append_right (by omega)]
  · next h1 =>
    by_cases h2 : a < pre.length
    · rw [List.getElem?_append_left h2]
    · rw [List.getElem?_eq_none (by omega), List.getElem?_eq_none (by simp; omega)]

/-- The same for `RespWrite`. -/
theorem respWrite_append (pre : List Byte) (n v : Nat) (s : State) (h : s.respBuf = Memory.ofBytes 0 pre)
    (hlen : pre.length + n ≤ 64) :
    (s.respWrite pre.length n v).respBuf = Memory.ofBytes 0 (pre ++ leBytes n v) :=
  respWriteBytes_append pre _ s h (by simpa using hlen)

/-- A snapshot of a packet of at most 64 bytes holds the packet. -/
theorem acceptPacket_requestBytes (bytes : List Byte) (rest : List Input) (s : State) :
    (acceptPacket bytes rest s).requestBytes = bytes.take 64 := by
  have h : (bytes.take 64).length = min bytes.length 64 := by rw [List.length_take, Nat.min_comm]
  have := bytes_ofBytes (bytes.take 64)
  rw [h] at this
  exact this

end Sys2Proof.Machine
end

