-- ==== Sys2Proof/Laws/Engine.lean ====
section
/-! SUPPORT. What the phases of the transfer engine do: each phase once, as an update of the state, with its wire trace
(40_pin_primitive.md R116). -/

namespace Sys2Proof.Machine

/-! ### The loop of a phase -/

@[simp] theorem forCnt_zero (op : Nat → State → State) (s : State) : forCnt op 0 s = s := rfl

@[simp] theorem forCnt_succ (op : Nat → State → State) (n : Nat) (s : State) :
    forCnt op (n + 1) s = op n (forCnt op n s) := rfl

/-- What no cycle of a phase changes, the phase does not change. -/
theorem forCnt_keeps {α : Type} (g : State → α) (op : Nat → State → State) (h : ∀ k s, g (op k s) = g s) (n : Nat)
    (s : State) : g (forCnt op n s) = g s := by
  induction n with
  | zero => rfl
  | succ n ih => rw [forCnt_succ, h, ih]

/-- A relation to the state at the start that every cycle keeps, the phase keeps. -/
theorem forCnt_rel (P : State → Prop) (op : Nat → State → State) (h : ∀ k s, P s → P (op k s)) (n : Nat) (s : State)
    (hs : P s) : P (forCnt op n s) := by
  induction n with
  | zero => exact hs
  | succ n ih => exact h _ _ ih

/-- Two cycles that agree on the states a phase goes through give the same phase. -/
theorem forCnt_congr (op op' : Nat → State → State) (P : State → Prop) (hP : ∀ k s, P s → P (op k s))
    (h : ∀ k s, P s → op k s = op' k s) (n : Nat) (s : State) (hs : P s) : forCnt op n s = forCnt op' n s := by
  induction n with
  | zero => rfl
  | succ n ih => rw [forCnt_succ, forCnt_succ, ← ih, h _ _ (forCnt_rel P op hP n s hs)]

/-! ### Wire traces -/

@[simp] theorem wireEvents_nil : wireEvents [] = [] := rfl

@[simp] theorem wireEvents_append (a b : List WireSymbol) : wireEvents (a ++ b) = wireEvents a ++ wireEvents b :=
  List.flatMap_append

@[simp] theorem wireEvents_cons (a : WireSymbol) (b : List WireSymbol) : wireEvents (a :: b) = a.events ++ wireEvents b :=
  rfl

@[simp] theorem afterWire_nil (t : List PinEvent) : afterWire [] t = t := rfl

/-- Wire traces compose. -/
theorem afterWire_append (a b : List WireSymbol) (t : List PinEvent) :
    afterWire (a ++ b) t = afterWire b (afterWire a t) := by
  simp [afterWire]

theorem afterWire_cons (a : WireSymbol) (b : List WireSymbol) (t : List PinEvent) :
    afterWire (a :: b) t = afterWire b (a.events.reverse ++ t) := by
  simp [afterWire]

/-- A phase's wire trace grows by one symbol a cycle. -/
theorem afterWire_range_succ (f : Nat → WireSymbol) (n : Nat) (t : List PinEvent) :
    afterWire ((List.range (n + 1)).map f) t = (f n).events.reverse ++ afterWire ((List.range n).map f) t := by
  rw [List.range_succ, List.map_append, afterWire_append]
  simp [afterWire]

/-- The symbols of a value's bits. -/
theorem wireBits_map {w : Nat} (v : BitVec w) (f : Bool → WireSymbol) :
    (wireBits v).map f = (List.range w).map fun k => f (v.getLsbD k) := List.map_map

/-- Clock cycles of a wire trace: its `W`, `R` and `Z` symbols (R116). -/
theorem clockCycles_afterWire (a : List WireSymbol) (t : List PinEvent) :
    clockCycles (afterWire a t) =
      clockCycles t + a.countP (fun | .w _ => true | .r _ => true | .z => true | _ => false) := by
  induction a generalizing t with
  | nil => rfl
  | cons x a ih =>
    rw [afterWire_cons, ih, List.countP_cons]
    cases x <;> simp [WireSymbol.events, clockCycles] <;> omega

/-! ### The phases that drive -/

/-- Driving the bits `b 0` to `b m`. -/
theorem forCnt_writeBit (b : Nat → Bool) (n m : Nat) (hn : n = m + 1) (s : State) :
    forCnt (fun k => writeBit (b k)) n s =
      { s with clk := true, dout := b m, trace := afterWire ((List.range n).map fun k => .w (b k)) s.trace } := by
  subst hn
  induction m with
  | zero => rfl
  | succ m ih =>
    rw [forCnt_succ, ih, afterWire_range_succ _ (m + 1)]
    rfl

/-- The header drive (41_swd_transfer.md R133). -/
theorem headerPhase_eq (s : State) :
    headerPhase s =
      { s with
        dir := .output, clk := true, dout := s.hdr.getLsbD 7
        trace := afterWire (.out :: (wireBits s.hdr).map .w) s.trace } := by
  have h : forCnt driveHeaderBit 8 (setDirection .output s) =
      forCnt (fun k => writeBit (s.hdr.getLsbD k)) 8 (setDirection .output s) :=
    forCnt_congr driveHeaderBit (fun k => writeBit (s.hdr.getLsbD k)) (fun t => t.hdr = s.hdr) (fun _ _ h => h)
      (fun k t h => by rw [driveHeaderBit, h]) 8 (setDirection .output s) rfl
  rw [headerPhase, h, forCnt_writeBit (fun k => s.hdr.getLsbD k) 8 7 rfl, wireBits_map, afterWire_cons]
  rfl

/-- The data drive of a write (R139): 32 bits, and the running parity ends as the parity of the value. -/
theorem driveDataBits_eq (n m : Nat) (hn : n = m + 1) (s : State) :
    forCnt driveDataBit n s =
      { s with
        clk := true, dout := s.shift.getLsbD m, par := s.par ^^ parityBelow s.shift n
        trace := afterWire ((List.range n).map fun k => .w (s.shift.getLsbD k)) s.trace } := by
  subst hn
  induction m with
  | zero =>
    simp only [forCnt_succ, forCnt_zero, driveDataBit, parityBelow, Bool.false_xor]
    rfl
  | succ m ih =>
    rw [forCnt_succ, ih, afterWire_range_succ _ (m + 1), parityBelow.eq_2 _ (m + 1), ← Bool.xor_assoc]
    rfl

theorem writeDataPhase_eq (s : State) :
    writeDataPhase s =
      { s with
        clk := true, dout := s.req.value.getLsbD 31, shift := s.req.value, par := parity s.req.value
        trace := afterWire ((wireBits s.req.value).map .w) s.trace } := by
  rw [writeDataPhase, driveDataBits_eq 32 31 rfl, wireBits_map]
  simp only [Bool.false_xor]
  rfl

/-- A raw sequence's drive (R145). -/
theorem driveSequenceBits_eq (n m : Nat) (hn : n = m + 1) (s : State) :
    forCnt driveSequenceBit n s =
      { s with
        clk := true, dout := sequenceBit s.seqBits m
        trace := afterWire ((List.range n).map fun k => .w (sequenceBit s.seqBits k)) s.trace } := by
  rw [← forCnt_writeBit (fun k => sequenceBit s.seqBits k) n m hn s]
  exact forCnt_congr driveSequenceBit (fun k => writeBit (sequenceBit s.seqBits k)) (fun t => t.seqBits = s.seqBits)
    (fun _ _ h => h) (fun k t h => by rw [driveSequenceBit, h]) n s rfl

/-! ### Turnaround and idle cycles -/

/-- `n` cycles without a bit (40_pin_primitive.md R114). -/
theorem turnCycles_eq (n : Nat) (s : State) :
    turnCycles n s =
      { s with clk := if n = 0 then s.clk else true, trace := afterWire (List.replicate n .z) s.trace } := by
  induction n with
  | zero => rfl
  | succ n ih =>
    rw [turnCycles] at ih
    rw [turnCycles, forCnt_succ, ih, if_neg (Nat.succ_ne_zero n), List.replicate_succ', afterWire_append]
    rfl

/-- One bit driven (40_pin_primitive.md R112). -/
theorem writeBit_eq (b : Bool) (s : State) :
    writeBit b s = { s with clk := true, dout := b, trace := afterWire [.w b] s.trace } := rfl

/-- The idle cycles after a write (41_swd_transfer.md R141). -/
theorem idleCyclesAfterWrite_eq (s : State) :
    idleCyclesAfterWrite s =
      { s with
        clk := if s.cfg.idleCycles = 0 then s.clk else true
        dout := if s.cfg.idleCycles = 0 then s.dout else false
        trace := afterWire (if s.cfg.idleCycles = 0 then [] else .low :: List.replicate s.cfg.idleCycles.toNat .z)
          s.trace } := by
  unfold idleCyclesAfterWrite
  by_cases h : s.cfg.idleCycles = 0
  · simp only [if_pos h]
    rfl
  · have hn : s.cfg.idleCycles.toNat ≠ 0 := fun e => h (BitVec.eq_of_toNat_eq (by simpa using e))
    simp only [if_neg h, turnCycles_eq, if_neg hn, afterWire_cons]
    rfl

/-! ### The phases that sample -/

/-- A bit placed in a register. -/
theorem placeBit_getLsbD {w : Nat} (v : BitVec w) (k i : Nat) (b : Bool) (hk : k < w) :
    (placeBit v k b).getLsbD i = if i = k then b else v.getLsbD i := by
  unfold placeBit
  by_cases hi : i < w
  · by_cases h : i = k
    · subst h
      simp [hi]
    · by_cases hlt : i < k
      · simp [hi, h, hlt]
      · have : ¬ i - k = 0 := by omega
        simp [hi, h, hlt, this]
  · simp [BitVec.getLsbD_of_ge _ _ (by omega : w ≤ i)]
    omega

/-- A sample when the target's answer is given. -/
theorem readBit_eq (b : Bool) (rest : List Bool) (s : State) (h : s.samples = b :: rest) :
    sampledBit s = b ∧
      readBit s = { s with clk := true, samples := rest, trace := afterWire [.r b] s.trace } := by
  have hb : sampledBit s = b := by
    show (clockLow s).lineLevel = b
    unfold State.lineLevel
    rw [show (clockLow s).samples = b :: rest from h]
  refine ⟨hb, ?_⟩
  have hl : (clockLow s).lineLevel = b := hb
  simp only [readBit, getData, hl]
  rw [show (clockLow s).samples = b :: rest from h]
  rfl

/-- The acknowledgement sampled, when the target's answer is given (R135). -/
theorem sampleAckBits_eq (a : BitVec 3) (rest : List Bool) (s : State) (h : s.samples = ackAnswer a ++ rest) :
    forCnt sampleAckBit 3 s =
      { s with clk := true, ack := a, samples := rest, trace := afterWire ((wireBits a).map .r) s.trace } := by
  have h' : s.samples = a.getLsbD 0 :: a.getLsbD 1 :: a.getLsbD 2 :: rest := h
  have one : ∀ (k : Nat) (b : Bool) (r : List Bool) (t : State), t.samples = b :: r →
      sampleAckBit k t = { t with clk := true, ack := placeBit t.ack k b, samples := r,
                                  trace := afterWire [.r b] t.trace } := by
    intro k b r t ht
    obtain ⟨h1, h2⟩ := readBit_eq b r t ht
    rw [sampleAckBit, h1, h2]
  have ha : placeBit (placeBit (placeBit s.ack 0 (a.getLsbD 0)) 1 (a.getLsbD 1)) 2 (a.getLsbD 2) = a := by
    apply BitVec.eq_of_getLsbD_eq
    intro i hi
    rw [placeBit_getLsbD _ _ _ _ (by omega), placeBit_getLsbD _ _ _ _ (by omega),
      placeBit_getLsbD _ _ _ _ (by omega)]
    have : i = 0 ∨ i = 1 ∨ i = 2 := by omega
    rcases this with rfl | rfl | rfl <;> rfl
  rw [forCnt_succ, forCnt_succ, forCnt_succ, forCnt_zero, one 0 _ _ s h', one 1 _ _ _ rfl, one 2 _ _ _ rfl]
  simp only [ha]
  rfl

/-- The release, the turnaround and the acknowledgement, when the target's answer is given (R135). -/
theorem ackPhase_eq (trn : Nat) (a : BitVec 3) (rest : List Bool) (s : State) (h : s.samples = ackAnswer a ++ rest) :
    ackPhase trn s =
      { s with
        dir := .input, clk := true, ack := a, samples := rest
        trace := afterWire (.rel :: List.replicate trn .z ++ (wireBits a).map .r) s.trace } := by
  rw [ackPhase, turnCycles_eq, sampleAckBits_eq a rest _ (by exact h)]
  simp only [afterWire_append, afterWire_cons]
  rfl

/-- The data sampled, when the target's answer is given (R137): the register holds the sampled bits and the running
parity theirs. -/
theorem sampleDataBits_eq (v : Word) (rest : List Bool) (n : Nat) (hn : n ≤ 32) (s : State)
    (h : s.samples = (List.range n).map v.getLsbD ++ rest) :
    ∃ sh : Word, (∀ i, sh.getLsbD i = if i < n then v.getLsbD i else s.shift.getLsbD i) ∧
      forCnt sampleDataBit n s =
        { s with
          clk := if n = 0 then s.clk else true, shift := sh, par := s.par ^^ parityBelow v n, samples := rest
          trace := afterWire (((List.range n).map v.getLsbD).map .r) s.trace } := by
  induction n generalizing rest with
  | zero =>
    refine ⟨s.shift, fun i => by simp, ?_⟩
    have h' : s.samples = rest := h
    simp [parityBelow, ← h']
  | succ n ih =>
    obtain ⟨sh, hsh, heq⟩ := ih (v.getLsbD n :: rest) (by omega) (by rw [h, List.range_succ]; simp)
    refine ⟨placeBit sh n (v.getLsbD n), fun i => ?_, ?_⟩
    · rw [placeBit_getLsbD _ _ _ _ (by omega), hsh]
      by_cases h1 : i = n
      · subst h1; simp
      · by_cases h2 : i < n
        · rw [if_neg h1, if_pos h2, if_pos (by omega)]
        · rw [if_neg h1, if_neg h2, if_neg (by omega)]
    · rw [forCnt_succ, heq]
      obtain ⟨h1, h2⟩ := readBit_eq (v.getLsbD n) rest
        { s with
          clk := if n = 0 then s.clk else true, shift := sh, par := s.par ^^ parityBelow v n
          samples := v.getLsbD n :: rest
          trace := afterWire (((List.range n).map v.getLsbD).map .r) s.trace } rfl
      rw [sampleDataBit, h1, h2, List.range_succ, List.map_append, List.map_append, afterWire_append, parityBelow,
        ← Bool.xor_assoc, if_neg (Nat.succ_ne_zero n)]
      rfl

theorem readDataPhase_eq (v : Word) (rest : List Bool) (s : State) (h : s.samples = wireBits v ++ rest) :
    readDataPhase s =
      { s with
        clk := true, shift := v, par := parity v, samples := rest
        trace := afterWire ((wireBits v).map .r) s.trace } := by
  obtain ⟨sh, hsh, heq⟩ := sampleDataBits_eq v rest 32 (by omega) { s with par := false } h
  have : sh = v := by
    apply BitVec.eq_of_getLsbD_eq
    intro i hi
    rw [hsh, if_pos hi]
  subst this
  rw [readDataPhase, heq]
  simp only [Bool.false_xor]
  rfl

/-- The parity bit of a read, when the target's answer is given (R138). -/
theorem sampleParityBit_eq (pb : Bool) (rest : List Bool) (s : State) (h : s.samples = pb :: rest) :
    sampleParityBit s =
      { s with clk := true, perr := pb ^^ s.par, samples := rest, trace := afterWire [.r pb] s.trace } := by
  obtain ⟨h1, h2⟩ := readBit_eq pb rest s h
  rw [sampleParityBit, h1, h2]

/-! ### What the engine leaves unchanged -/

theorem EngineFrame.refl (s : State) : EngineFrame s s := by constructor <;> rfl

theorem EngineFrame.trans {s t u : State} (h : EngineFrame s t) (h' : EngineFrame t u) : EngineFrame s u := by
  constructor <;> first
    | exact h'.cfg.trans h.cfg | exact h'.connected.trans h.connected | exact h'.rst.trans h.rst
    | exact h'.busy.trans h.busy | exact h'.rp.trans h.rp | exact h'.wp.trans h.wp
    | exact h'.doneCount.trans h.doneCount | exact h'.reqBuf.trans h.reqBuf | exact h'.reqLen.trans h.reqLen
    | exact h'.respBuf.trans h.respBuf | exact h'.respLen.trans h.respLen | exact h'.okOut.trans h.okOut
    | exact h'.cause.trans h.cause | exact h'.inputs.trans h.inputs | exact h'.outbox.trans h.outbox

/-- A phase whose cycles keep the frame keeps it. -/
theorem EngineFrame.forCnt (op : Nat → State → State) (h : ∀ k s, EngineFrame s (op k s)) (n : Nat) (s : State) :
    EngineFrame s (forCnt op n s) :=
  forCnt_rel (EngineFrame s) op (fun k t ht => ht.trans (h k t)) n s (EngineFrame.refl s)

theorem setDirection_frame (d : LineDir) (s : State) : EngineFrame s (setDirection d s) := by constructor <;> rfl
theorem setData_frame (l : Bool) (s : State) : EngineFrame s (setData l s) := by constructor <;> rfl
theorem writeBit_frame (b : Bool) (s : State) : EngineFrame s (writeBit b s) := by constructor <;> rfl
theorem turnCycle_frame (s : State) : EngineFrame s (turnCycle s) := by constructor <;> rfl
theorem latchRequest_frame (r : TransferRequest) (s : State) : EngineFrame s (latchRequest r s) := by
  constructor <;> rfl
theorem latchSequence_frame (n : BitVec 32) (bits : List Byte) (s : State) : EngineFrame s (latchSequence n bits s) := by
  constructor <;> rfl
theorem finishTransfer_frame (r : TransferResult) (s : State) : EngineFrame s (finishTransfer r s) := by
  constructor <;> rfl
theorem finishSequence_frame (s : State) : EngineFrame s (finishSequence s) := by constructor <;> rfl
theorem enterPhase_frame (f : Fsm) (s : State) : EngineFrame s (enterPhase f s) := by constructor <;> rfl
theorem countCycle_frame (s : State) : EngineFrame s (countCycle s) := by constructor <;> rfl
theorem driveHeaderBit_frame (k : Nat) (s : State) : EngineFrame s (driveHeaderBit k s) := by constructor <;> rfl
theorem sampleAckBit_frame (k : Nat) (s : State) : EngineFrame s (sampleAckBit k s) := by constructor <;> rfl
theorem sampleDataBit_frame (k : Nat) (s : State) : EngineFrame s (sampleDataBit k s) := by constructor <;> rfl
theorem sampleParityBit_frame (s : State) : EngineFrame s (sampleParityBit s) := by constructor <;> rfl
theorem driveDataBit_frame (k : Nat) (s : State) : EngineFrame s (driveDataBit k s) := by constructor <;> rfl
theorem driveParityBit_frame (s : State) : EngineFrame s (driveParityBit s) := by constructor <;> rfl
theorem driveSequenceBit_frame (k : Nat) (s : State) : EngineFrame s (driveSequenceBit k s) := by constructor <;> rfl

theorem turnCycles_frame (n : Nat) (s : State) : EngineFrame s (turnCycles n s) :=
  EngineFrame.forCnt _ (fun _ => turnCycle_frame) n s

theorem headerPhase_frame (s : State) : EngineFrame s (headerPhase s) :=
  (setDirection_frame .output s).trans (EngineFrame.forCnt _ driveHeaderBit_frame _ _)

theorem ackPhase_frame (trn : Nat) (s : State) : EngineFrame s (ackPhase trn s) :=
  ((setDirection_frame .input s).trans (turnCycles_frame _ _)).trans (EngineFrame.forCnt _ sampleAckBit_frame _ _)

theorem noDataPhase_frame (trn : Nat) (s : State) : EngineFrame s (noDataPhase trn s) :=
  (turnCycles_frame trn s).trans (finishTransfer_frame _ _)

theorem readDataPhase_frame (s : State) : EngineFrame s (readDataPhase s) := by
  have h : EngineFrame s { s with par := false } := by constructor <;> rfl
  exact h.trans (EngineFrame.forCnt _ sampleDataBit_frame _ _)

theorem readPhase_frame (trn : Nat) (s : State) : EngineFrame s (readPhase trn s) :=
  ((((readDataPhase_frame s).trans (sampleParityBit_frame _)).trans (turnCycles_frame trn _)).trans
    (turnCycles_frame _ _)).trans (finishTransfer_frame _ _)

theorem writeDataPhase_frame (s : State) : EngineFrame s (writeDataPhase s) := by
  have h : EngineFrame s { s with shift := s.req.value, par := false } := by constructor <;> rfl
  exact h.trans (EngineFrame.forCnt _ driveDataBit_frame _ _)

theorem idleCyclesAfterWrite_frame (s : State) : EngineFrame s (idleCyclesAfterWrite s) := by
  unfold idleCyclesAfterWrite
  split
  · exact EngineFrame.refl s
  · exact (setData_frame false s).trans (turnCycles_frame _ _)

theorem writePhase_frame (trn : Nat) (s : State) : EngineFrame s (writePhase trn s) :=
  (((((turnCycles_frame trn s).trans (setDirection_frame _ _)).trans (writeDataPhase_frame _)).trans
    (driveParityBit_frame _)).trans (idleCyclesAfterWrite_frame _)).trans (finishTransfer_frame _ _)

theorem dataPhase_frame (trn : Nat) (s : State) : EngineFrame s (dataPhase trn s) := by
  unfold dataPhase
  split
  · exact readPhase_frame trn s
  · exact writePhase_frame trn s

theorem afterAck_frame (trn : Nat) (s : State) : EngineFrame s (afterAck trn s) := by
  unfold afterAck
  split
  · exact dataPhase_frame trn s
  · exact noDataPhase_frame trn s

/-- An attempt writes the pins and the engine's registers alone (10_state.md R38). -/
theorem executeTransfer_frame (trn : Nat) (req : TransferRequest) (s : State) :
    EngineFrame s (executeTransfer trn req s) :=
  (((latchRequest_frame req s).trans (headerPhase_frame _)).trans (ackPhase_frame trn _)).trans (afterAck_frame trn _)

/-- A raw sequence writes the pins and the engine's registers alone (10_state.md R38). -/
theorem generateSequence_frame (n : BitVec 32) (bits : List Byte) (s : State) :
    EngineFrame s (generateSequence n bits s) :=
  (((latchSequence_frame n bits s).trans (setDirection_frame _ _)).trans
    (EngineFrame.forCnt _ driveSequenceBit_frame _ _)).trans (finishSequence_frame _)

/-- The retry loop writes what its attempts write, and counts them. -/
theorem attempt_frame (trn : Nat) (req : TransferRequest) (s : State) : EngineFrame s (attempt trn req s) := by
  have h := executeTransfer_frame trn req s
  constructor
  exacts [h.cfg, h.connected, h.rst, h.busy, h.rp, h.wp, h.doneCount, h.reqBuf, h.reqLen, h.respBuf, h.respLen, h.okOut,
    h.cause, h.inputs, h.outbox]

@[simp] theorem attempts_zero (trn : Nat) (req : TransferRequest) (s : State) : attempts trn req 0 s = s := rfl

@[simp] theorem attempts_succ (trn : Nat) (req : TransferRequest) (n : Nat) (s : State) :
    attempts trn req (n + 1) s = attempt trn req (attempts trn req n s) := rfl

theorem attempts_frame (trn : Nat) (req : TransferRequest) (n : Nat) (s : State) :
    EngineFrame s (attempts trn req n s) := by
  induction n with
  | zero => exact EngineFrame.refl s
  | succ n ih => exact ih.trans (attempt_frame trn req _)

/-- One turn of the retry loop (44_dap_transfer.md R243). -/
theorem retryLoop_succ (trn : Nat) (req : TransferRequest) (more : Nat) (s : State) :
    retryLoop trn req (more + 1) s =
      if (attempt trn req s).res.ack = resWait then retryLoop trn req more (attempt trn req s) else attempt trn req s :=
  rfl

theorem retryLoop_frame (trn : Nat) (req : TransferRequest) (more : Nat) (s : State) :
    EngineFrame s (retryLoop trn req more s) := by
  induction more generalizing s with
  | zero => exact attempt_frame trn req s
  | succ more ih =>
    rw [retryLoop_succ]
    split
    · exact (attempt_frame trn req s).trans (ih _)
    · exact attempt_frame trn req s

theorem transferWithRetry_frame (trn : Nat) (req : TransferRequest) (s : State) :
    EngineFrame s (transferWithRetry trn req s) := by
  have h : EngineFrame s { s with retryCount := 0 } := by constructor <;> rfl
  exact h.trans (retryLoop_frame trn req _ _)

end Sys2Proof.Machine
end

