-- ==== Sys2Proof/Laws/Fsm.lean ====
section
/-! SUPPORT. What the state machine of 41_swd_transfer.md R150 does in one phase, run clock cycle by clock cycle: the
operation of the phase for each bit index in order, then the exit. -/

namespace Sys2Proof.Machine

/-- A state with its phase and counter. -/
def atPhase (f : Fsm) (c : Nat) (s : State) : State := { s with fsm := f, cnt := c }

/-- Only the last phase counts. -/
@[simp] theorem atPhase_atPhase (f c f' c' s) : atPhase f c (atPhase f' c' s) = atPhase f c s := rfl
/-- The operation of a phase does not touch the phase and its counter. -/
theorem forCnt_atPhase (op : Nat → State → State) (h : ∀ k f c s, op k (atPhase f c s) = atPhase f c (op k s)) (n f c s) :
    forCnt op n (atPhase f c s) = atPhase f c (forCnt op n s) := by
  induction n with
  | zero => rfl
  | succ n ih => rw [forCnt_succ, ih, h]; rfl

/-- An idle engine stays. -/
theorem runClock_idle (trn n s) (h : s.fsm = .idle) : runClock trn n s = s := by
  cases n <;> simp [runClock, h]
/-- Runs compose. -/
theorem runClock_add (trn a b s) : runClock trn (a + b) s = runClock trn b (runClock trn a s) := by
  induction a generalizing s with
  | zero => simp [runClock]
  | succ a ih =>
    rw [Nat.succ_add]
    by_cases h : s.fsm = .idle
    · rw [runClock_idle _ _ _ h, runClock_idle _ _ _ h, runClock_idle _ _ _ h]
    · simp [runClock, h, ih]

/-- A phase of `n` cycles, run from its entry: its operation for each bit index in order, then its exit (41_swd_transfer.md
R150). -/
theorem runClock_phase (trn : Nat) (f : Fsm) (hf : f ≠ .idle) (op : Nat → State → State) (n : Nat)
    (hop : ∀ s, s.fsm = f → phaseCycle s = op s.cnt s) (hW : ∀ k f c s, op k (atPhase f c s) = atPhase f c (op k s))
    (hn : 0 < n) (s : State) (hl : ∀ k c, phaseLength trn (atPhase f c (forCnt op k s)) = n) :
    runClock trn n (atPhase f 0 s) = phaseExit trn (atPhase f n (forCnt op n s)) := by
  have step1 : ∀ k, clock trn (atPhase f k (forCnt op k s)) =
      if k + 1 = n then phaseExit trn (atPhase f (k+1) (forCnt op (k+1) s)) else atPhase f (k+1) (forCnt op (k+1) s) := by
    intro k
    have e : countCycle (phaseCycle (atPhase f k (forCnt op k s))) = atPhase f (k+1) (forCnt op (k+1) s) := by
      rw [hop _ rfl, hW]; rfl
    unfold clock
    simp only [e, hl]
    rfl
  have : ∀ k, k < n → runClock trn k (atPhase f 0 s) = atPhase f k (forCnt op k s) := by
    intro k hk
    induction k with
    | zero => rfl
    | succ k ih =>
      rw [runClock_add, ih (by omega)]
      have hni : (atPhase f k (forCnt op k s)).fsm ≠ .idle := hf
      simp [runClock, hni, step1]
      omega
  obtain ⟨m, rfl⟩ : ∃ m, n = m + 1 := ⟨n - 1, by omega⟩
  rw [runClock_add, this m (by omega)]
  have hni : (atPhase f m (forCnt op m s)).fsm ≠ .idle := hf
  simp [runClock, hni, step1]

/-- The length of a phase does not change during it. -/
theorem phaseLength_forCnt {trn f op n} (h : ∀ k s, (op k s : State).cfg = s.cfg ∧ (op k s).seqCount = s.seqCount) (s : State)
   (h0 : phaseLength trn (atPhase f 0 s) = n) : ∀ k c, phaseLength trn (atPhase f c (forCnt op k s)) = n := by
  intro k c
  have h1 : (forCnt op k s).cfg = s.cfg := forCnt_keeps State.cfg op (fun k s => (h k s).1) k s
  have h2 : (forCnt op k s).seqCount = s.seqCount := forCnt_keeps State.seqCount op (fun k s => (h k s).2) k s
  rw [← h0]
  cases f <;> simp [phaseLength, atPhase, h1, h2]

/-- The header, cycle by cycle. -/
theorem runClock_hdr (trn s) : runClock trn 8 (atPhase .hdr 0 s) = enterTurn1 trn (atPhase .hdr 8 (forCnt driveHeaderBit 8 s)) :=
  runClock_phase trn .hdr (by decide) driveHeaderBit 8 (by intro s h; simp [phaseCycle, h]) (fun _ _ _ _ => rfl) (by decide) s
    (by apply phaseLength_forCnt; · intro _ _; exact ⟨rfl, rfl⟩
        · rfl)
/-- The first turnaround, cycle by cycle. -/
theorem runClock_trn1 (trn s) (h : 0 < trn) : runClock trn trn (atPhase .trn1 0 s) = enterAck (atPhase .trn1 trn (turnCycles trn s)) :=
  runClock_phase trn .trn1 (by decide) (fun _ => turnCycle) trn (by intro s h; simp [phaseCycle, h]) (fun _ _ _ _ => rfl) h s
    (by apply phaseLength_forCnt; · intro _ _; exact ⟨rfl, rfl⟩
        · rfl)
/-- The acknowledgement, cycle by cycle. -/
theorem runClock_ackp (trn s) : runClock trn 3 (atPhase .ackp 0 s) = exitAck trn (atPhase .ackp 3 (forCnt sampleAckBit 3 s)) :=
  runClock_phase trn .ackp (by decide) sampleAckBit 3 (by intro s h; simp [phaseCycle, h]) (fun _ _ _ _ => rfl) (by decide) s
    (by apply phaseLength_forCnt; · intro _ _; exact ⟨rfl, rfl⟩
        · rfl)
/-- The second turnaround, cycle by cycle. -/
theorem runClock_trn2 (trn s) (h : 0 < trn) : runClock trn trn (atPhase .trn2 0 s) = exitTurn2 (atPhase .trn2 trn (turnCycles trn s)) :=
  runClock_phase trn .trn2 (by decide) (fun _ => turnCycle) trn (by intro s h; simp [phaseCycle, h]) (fun _ _ _ _ => rfl) h s
    (by apply phaseLength_forCnt; · intro _ _; exact ⟨rfl, rfl⟩
        · rfl)
/-- The data of a read, cycle by cycle. -/
theorem runClock_rdata (trn s) : runClock trn 32 (atPhase .rdata 0 s) = enterReadParity (atPhase .rdata 32 (forCnt sampleDataBit 32 s)) :=
  runClock_phase trn .rdata (by decide) sampleDataBit 32 (by intro s h; simp [phaseCycle, h]) (fun _ _ _ _ => rfl) (by decide) s
    (by apply phaseLength_forCnt; · intro _ _; exact ⟨rfl, rfl⟩
        · rfl)
/-- The parity bit of a read, cycle by cycle. -/
theorem runClock_rpar (trn s) : runClock trn 1 (atPhase .rpar 0 s) = enterTurn2 trn (atPhase .rpar 1 (sampleParityBit s)) :=
  runClock_phase trn .rpar (by decide) (fun _ => sampleParityBit) 1 (by intro s h; simp [phaseCycle, h]) (fun _ _ _ _ => rfl) (by decide) s
    (by apply phaseLength_forCnt; · intro _ _; exact ⟨rfl, rfl⟩
        · rfl)
/-- The data of a write, cycle by cycle. -/
theorem runClock_wdata (trn s) : runClock trn 32 (atPhase .wdata 0 s) = enterWriteParity (atPhase .wdata 32 (forCnt driveDataBit 32 s)) :=
  runClock_phase trn .wdata (by decide) driveDataBit 32 (by intro s h; simp [phaseCycle, h]) (fun _ _ _ _ => rfl) (by decide) s
    (by apply phaseLength_forCnt; · intro _ _; exact ⟨rfl, rfl⟩
        · rfl)
/-- The parity bit of a write, cycle by cycle. -/
theorem runClock_wpar (trn s) : runClock trn 1 (atPhase .wpar 0 s) = enterIdle (atPhase .wpar 1 (driveParityBit s)) :=
  runClock_phase trn .wpar (by decide) (fun _ => driveParityBit) 1 (by intro s h; simp [phaseCycle, h]) (fun _ _ _ _ => rfl) (by decide) s
    (by apply phaseLength_forCnt; · intro _ _; exact ⟨rfl, rfl⟩
        · rfl)
/-- The idle cycles, cycle by cycle. -/
theorem runClock_idlec (trn s) (h : 0 < s.cfg.idleCycles.toNat) : runClock trn s.cfg.idleCycles.toNat (atPhase .idlec 0 s) = exitIdle (atPhase .idlec s.cfg.idleCycles.toNat (turnCycles s.cfg.idleCycles.toNat s)) :=
  runClock_phase trn .idlec (by decide) (fun _ => turnCycle) _ (by intro s h; simp [phaseCycle, h]) (fun _ _ _ _ => rfl) h s
    (by apply phaseLength_forCnt; · intro _ _; exact ⟨rfl, rfl⟩
        · rfl)
/-- A raw sequence, cycle by cycle. -/
theorem runClock_seq (trn s) (h : 0 < s.seqCount.toNat) : runClock trn s.seqCount.toNat (atPhase .seq 0 s) = finishSequence (atPhase .seq s.seqCount.toNat (forCnt driveSequenceBit s.seqCount.toNat s)) :=
  runClock_phase trn .seq (by decide) driveSequenceBit _ (by intro s h; simp [phaseCycle, h]) (fun _ _ _ _ => rfl) h s
    (by apply phaseLength_forCnt; · intro _ _; exact ⟨rfl, rfl⟩
        · rfl)

/-! ### Entering the turnaround phases -/

/-- The first turnaround, of any length, ends at the entry of the acknowledgement. -/
theorem runClock_enterTurn1 (trn s) : runClock trn trn (enterTurn1 trn s) = atPhase .ackp 0 (turnCycles trn (setDirection .input s)) := by
  unfold enterTurn1
  split
  · rename_i h; subst h; rfl
  · rename_i h
    have := runClock_trn1 trn (setDirection .input s) (by omega)
    rw [show setDirection .input (enterPhase .trn1 s) = atPhase .trn1 0 (setDirection .input s) from rfl, this]
    rfl
/-- The second turnaround, of any length, ends at its exit. -/
theorem runClock_enterTurn2 (trn s) : ∃ c, runClock trn trn (enterTurn2 trn s) = exitTurn2 (atPhase .trn2 c (turnCycles trn s)) := by
  unfold enterTurn2
  split
  · rename_i h; subst h; exact ⟨0, rfl⟩
  · rename_i h
    exact ⟨trn, runClock_trn2 trn s (by omega)⟩
/-- The end of a transfer forgets the phase. -/
theorem finishTransfer_atPhase (r f c s) : finishTransfer r (atPhase f c s) = finishTransfer r s := rfl
/-- Turnaround cycles do not touch the phase and its counter. -/
theorem turnCycles_atPhase (n f c s) : turnCycles n (atPhase f c s) = atPhase f c (turnCycles n s) := forCnt_atPhase _ (fun _ _ _ _ => rfl) _ _ _ _

end Sys2Proof.Machine
end

