-- ==== Sys2Proof/Laws/Line.lean ====
section
/-! SUPPORT. The direction of the line through the engine's operations (40_pin_primitive.md R119), the clock's rest level
(R115), and the clock cycles each phase makes (41_swd_transfer.md R147). -/

namespace Sys2Proof.Machine

/-- The history is disciplined and leaves the line in direction `d`, which `DIR` holds. -/
def LineIs (d : LineDir) (s : State) : Prop := disciplined s.trace = true ∧ lineDirection s.trace = some d ∧ s.dir = d
/-- The history is disciplined and `DIR` is the direction it leaves, if it leaves one. -/
def LineAgrees (s : State) : Prop := disciplined s.trace = true ∧ ∀ d, lineDirection s.trace = some d → s.dir = d

theorem LineIs.agrees {d s} (h : LineIs d s) : LineAgrees s := ⟨h.1, fun e he => by have := h.2.1; rw [he] at this; cases this; exact h.2.2⟩

theorem writeBit_lineIs (b s) (h : LineIs .output s) : LineIs .output (writeBit b s) := by
  obtain ⟨h1,h2,h3⟩ := h
  refine ⟨?_,?_,h3⟩ <;> simp [writeBit, clockLow, clockHigh, delayHalf, setClock, setData, disciplined, lineDirection, h1, h2]

theorem readBit_lineIs (s) (h : LineIs .input s) : LineIs .input (readBit s) := by
  obtain ⟨h1,h2,h3⟩ := h
  refine ⟨?_,?_,h3⟩ <;> simp [readBit, getData, clockLow, clockHigh, delayHalf, setClock, disciplined, lineDirection, h1, h2]

theorem turnCycle_lineIs (d s) (h : LineIs d s) : LineIs d (turnCycle s) := by
  obtain ⟨h1,h2,h3⟩ := h
  refine ⟨?_,?_,h3⟩ <;> simp [turnCycle, clockLow, clockHigh, delayHalf, setClock, disciplined, lineDirection, h1, h2]

theorem turnCycle_lineAgrees (s) (h : LineAgrees s) : LineAgrees (turnCycle s) := by
  obtain ⟨h1,h2⟩ := h
  refine ⟨?_,fun d hd => ?_⟩
  · simp [turnCycle, clockLow, clockHigh, delayHalf, setClock, disciplined, h1]
  · exact h2 d (by simpa [turnCycle, clockLow, clockHigh, delayHalf, setClock, setData, disciplined, lineDirection, h1, h2] using hd)

theorem setDirection_lineIs (d s) (h : disciplined s.trace = true) : LineIs d (setDirection d s) := ⟨h, rfl, rfl⟩

theorem setData_lineIs (b s) (h : LineIs .output s) : LineIs .output (setData b s) := by
  obtain ⟨h1,h2,h3⟩ := h
  refine ⟨?_,?_,h3⟩ <;> simp [setData, disciplined, lineDirection, h1, h2]

theorem turnCycles_lineIs (d n s) (h : LineIs d s) : LineIs d (turnCycles n s) := forCnt_rel (LineIs d) _ (fun _ s h => turnCycle_lineIs d s h) n s h

theorem turnCycles_clk (n s) (h : s.clk = true) : (turnCycles n s).clk = true := by rw [turnCycles_eq]; simp [h]

theorem headerPhase_lineIs (s) (h : disciplined s.trace = true) : LineIs .output (headerPhase s) :=
  forCnt_rel (LineIs .output) driveHeaderBit (fun _ s h => writeBit_lineIs _ s h) 8 _ (setDirection_lineIs _ s h)

theorem ackPhase_lineIs (trn s) (h : disciplined s.trace = true) : LineIs .input (ackPhase trn s) :=
  forCnt_rel (LineIs .input) sampleAckBit (fun _ s h => readBit_lineIs s h) 3 _ (turnCycles_lineIs _ _ _ (setDirection_lineIs _ s h))

theorem sampleParityBit_clk (s) : (sampleParityBit s).clk = true := rfl

theorem driveParityBit_clk (s) : (driveParityBit s).clk = true := rfl

theorem ackPhase_clk (trn s) : (ackPhase trn s).clk = true := by unfold ackPhase; rw [forCnt_succ]; rfl

/-! ### Clock cycles -/

theorem clockCycles_cons (e : PinEvent) (t) : clockCycles (e :: t) = clockCycles t + if e = .setClock true then 1 else 0 := by
  simp [clockCycles, List.countP_cons]

theorem writeBit_clockCycles (b s) : clockCycles (writeBit b s).trace = clockCycles s.trace + 1 := by
  simp [writeBit, clockLow, clockHigh, delayHalf, setClock, setData, clockCycles_cons]

theorem readBit_clockCycles (s) : clockCycles (readBit s).trace = clockCycles s.trace + 1 := by
  simp [readBit, getData, clockLow, clockHigh, delayHalf, setClock, clockCycles_cons]

theorem turnCycle_clockCycles (s) : clockCycles (turnCycle s).trace = clockCycles s.trace + 1 := by
  simp [turnCycle, clockLow, clockHigh, delayHalf, setClock, clockCycles_cons]

theorem forCnt_clockCycles (op : Nat → State → State) (h : ∀ k s, clockCycles (op k s).trace = clockCycles s.trace + 1) (n s) :
    clockCycles (forCnt op n s).trace = clockCycles s.trace + n := by
  induction n with
  | zero => rfl
  | succ n ih => rw [forCnt_succ, h, ih]; omega

theorem turnCycles_clockCycles (n s) : clockCycles (turnCycles n s).trace = clockCycles s.trace + n := forCnt_clockCycles _ (fun _ s => turnCycle_clockCycles s) n s

theorem setDirection_clockCycles (d s) : clockCycles (setDirection d s).trace = clockCycles s.trace := by simp [setDirection, clockCycles_cons]

theorem setData_clockCycles (d s) : clockCycles (setData d s).trace = clockCycles s.trace := by simp [setData, clockCycles_cons]

theorem headerPhase_clockCycles (s) : clockCycles (headerPhase s).trace = clockCycles s.trace + 8 := by
  rw [headerPhase, forCnt_clockCycles driveHeaderBit (fun _ s => writeBit_clockCycles _ s), setDirection_clockCycles]

theorem ackPhase_clockCycles (n s) : clockCycles (ackPhase n s).trace = clockCycles s.trace + n + 3 := by
  rw [ackPhase, forCnt_clockCycles sampleAckBit (fun _ s => readBit_clockCycles s), turnCycles_clockCycles, setDirection_clockCycles]

theorem readDataPhase_clockCycles (s) : clockCycles (readDataPhase s).trace = clockCycles s.trace + 32 := by
  rw [readDataPhase, forCnt_clockCycles sampleDataBit (fun _ s => readBit_clockCycles s)]

theorem writeDataPhase_clockCycles (s) : clockCycles (writeDataPhase s).trace = clockCycles s.trace + 32 := by
  rw [writeDataPhase, forCnt_clockCycles driveDataBit (fun _ s => writeBit_clockCycles _ s)]

theorem idleCyclesAfterWrite_clockCycles (s) : clockCycles (idleCyclesAfterWrite s).trace = clockCycles s.trace + s.cfg.idleCycles.toNat := by
  unfold idleCyclesAfterWrite
  split
  · simp [*]
  · rw [turnCycles_clockCycles, setData_clockCycles]

end Sys2Proof.Machine
end

