-- ==== Sys2Proof/Laws/PerInstr.lean ====
section
/-! SUPPORT. The round trip of each instruction's encoding, one lemma for each constructor of `Instr`, and the lemmas
about little-endian fields it rests on. -/

namespace Sys2Proof.Laws

theorem leBytes_len (n v : Nat) : (leBytes n v).length = n := by
  induction n generalizing v with
  | zero => rfl
  | succ n ih => simp [leBytes, ih]

/-- `n` bytes of a number read back as the number modulo `256 ^ n`. -/
theorem leNat_leBytes (n v : Nat) : leNat (leBytes n v) = v % 256 ^ n := by
  induction n generalizing v with
  | zero => simp [leBytes, leNat, Nat.mod_one]
  | succ n ih =>
    rw [leBytes, leNat, ih, BitVec.toNat_ofNat, Nat.pow_succ' (n := n) (m := 256), Nat.mod_mul (a := 256)]

/-- A field that stands after `pre` and before `post` is read whole. -/
theorem readField_mid (pre mid post : List Byte) (off n : Nat) (ho : pre.length = off) (hn : mid.length = n) :
    readField (pre ++ mid ++ post) off n = some (leNat mid) := by
  subst ho hn
  simp [readField]

theorem readU16_mid (pre post : List Byte) (v : BitVec 16) (off : Nat) (ho : pre.length = off) :
    readU16 (pre ++ leBytes 2 v.toNat ++ post) off = some v := by
  have h : v.toNat % 65536 = v.toNat := Nat.mod_eq_of_lt v.isLt
  rw [readU16, readField_mid pre _ post off 2 ho (leBytes_len 2 _), leNat_leBytes]
  simp [h]

theorem readU32_mid (pre post : List Byte) (v : Word) (off : Nat) (ho : pre.length = off) :
    readU32 (pre ++ leBytes 4 v.toNat ++ post) off = some v := by
  have h : v.toNat % 4294967296 = v.toNat := Nat.mod_eq_of_lt v.isLt
  rw [readU32, readField_mid pre _ post off 4 ho (leBytes_len 4 _), leNat_leBytes]
  simp [h]

theorem readU8_at (pre post : List Byte) (b : Byte) (off : Nat) (ho : pre.length = off) :
    readU8 (pre ++ b :: post) off = some b := by
  subst ho
  simp [readU8, readField, leNat]

/-- A packet that names an opcode of the table, is long enough for it and yields its fields is decoded to them. -/
theorem decodePacket_of_assemble (op : Byte) (fields : List Byte) (o : Opcode) (i : Instr)
    (hlen : fields.length ≤ 63) (ho : opcodeOf op = some o) (hmin : minLength o ≤ fields.length + 1)
    (hi : assemble o (op :: fields) = some i) :
    decodePacket (op :: fields).length (op :: fields) = .ok i := by
  have h1 : ¬((op :: fields).length = 0 ∨ Config.packetSize < (op :: fields).length) := by
    simp [Config.packetSize]; omega
  have h2 : ¬(op :: fields).length < minLength o := by simp; omega
  rw [decodePacket, if_neg h1]
  simp only [ho, if_neg h2, hi]

/-- The byte of an unassigned opcode names no command. -/
theorem opcodeOf_unassigned : ∀ op : Byte, isUnassignedOpcode op = true → opcodeOf op = none := by
  decide +kernel

/-- `ceil(n / 8)` bytes for the count byte, as the well-formedness check bounds them. -/
theorem sequenceDataFits_le (n : Byte) (l : Nat) (h : sequenceDataFits n l = true) : l ≤ swjByteCount n := by
  unfold sequenceDataFits at h
  unfold swjByteCount swjBitCount
  split at h <;> rename_i hn
  · rw [if_pos hn]; simpa using h
  · rw [if_neg hn]; simpa using h

theorem swjByteCount_le (n : Byte) : swjByteCount n ≤ 32 := by
  have := n.isLt
  unfold swjByteCount swjBitCount
  split <;> omega

namespace Encoding

/-- Decoding the encoding of a well-formed instruction, where its word stands, gives the instruction. -/
def Statement (i : Instr) : Prop := i.wf = true → decodeAt i.wordPort (encode i) = .ok i.canonical


theorem info (id : Byte) : Statement (.info id) := fun _ =>
  decodePacket_of_assemble 0x00 [id] .info _ (by simp) rfl (by simp [minLength])
    (by rw [assemble, show readU8 [0x00, id] 1 = some id from readU8_at [0x00] [] id 1 rfl]; rfl)

theorem hostStatus (t st : Byte) : Statement (.hostStatus t st) := fun _ =>
  decodePacket_of_assemble 0x01 [t, st] .hostStatus _ (by simp) rfl (by simp [minLength])
    (by
      have h1 : readU8 [0x01, t, st] 1 = some t := readU8_at [0x01] [st] t 1 rfl
      have h2 : readU8 [0x01, t, st] 2 = some st := readU8_at [0x01, t] [] st 2 rfl
      simp only [assemble, h1, h2]
      rfl)

theorem connect (port : Byte) : Statement (.connect port) := fun _ =>
  decodePacket_of_assemble 0x02 [port] .connect _ (by simp) rfl (by simp [minLength])
    (by rw [assemble, show readU8 [0x02, port] 1 = some port from readU8_at [0x02] [] port 1 rfl]; rfl)

theorem disconnect : Statement .disconnect := fun _ => rfl

theorem xferCfg (i : BitVec 8) (w m : BitVec 16) : Statement (.xferCfg i w m) := fun _ =>
  decodePacket_of_assemble 0x04 (i :: (leBytes 2 w.toNat ++ leBytes 2 m.toNat)) .xferCfg _ (by simp [leBytes_len]) rfl
    (by simp [minLength, leBytes_len])
    (by
      have h1 : readU8 (0x04 :: i :: (leBytes 2 w.toNat ++ leBytes 2 m.toNat)) 1 = some i := readU8_at [0x04] _ i 1 rfl
      have h2 : readU16 (0x04 :: i :: (leBytes 2 w.toNat ++ leBytes 2 m.toNat)) 2 = some w :=
        readU16_mid [0x04, i] (leBytes 2 m.toNat) w 2 rfl
      have h3 : readU16 (0x04 :: i :: (leBytes 2 w.toNat ++ leBytes 2 m.toNat)) 4 = some m := by
        simpa using readU16_mid (0x04 :: i :: leBytes 2 w.toNat) [] m 4 (by simp [leBytes_len])
      simp only [assemble, h1, h2, h3]
      rfl)

theorem xfer (rq : Byte) (operand : Word) : Statement (.xfer rq operand) := fun _ =>
  decodePacket_of_assemble 0x05 (rq :: leBytes 4 operand.toNat) .xfer _ (by simp [leBytes_len]) rfl
    (by simp [minLength, leBytes_len])
    (by
      have h1 : readU8 (0x05 :: rq :: leBytes 4 operand.toNat) 1 = some rq := readU8_at [0x05] _ rq 1 rfl
      have h2 : readU32 (0x05 :: rq :: leBytes 4 operand.toNat) 2 = some operand := by
        simpa using readU32_mid [0x05, rq] [] operand 2 rfl
      simp only [assemble, h1, h2]
      rfl)

theorem xferBlk (rq : Byte) (count : BitVec 16) (data : List Byte) : Statement (.xferBlk rq count data) := fun h => by
  have hd : data.length ≤ blockByteCount rq count ∧ data.length ≤ 60 := by
    have hf : blockDataFits rq count data.length = true := h
    unfold blockDataFits at hf
    unfold blockByteCount rqDirection Direction.ofBit
    cases hr : rq.getLsbD 1
    · rw [hr] at hf; simpa using hf
    · rw [hr] at hf; simp at hf; simp [hf]
  exact decodePacket_of_assemble 0x06 (rq :: (leBytes 2 count.toNat ++ data)) .xferBlk _
    (by simp [leBytes_len]; omega) rfl (by simp [minLength, leBytes_len])
    (by
      have h1 : readU8 (0x06 :: rq :: (leBytes 2 count.toNat ++ data)) 1 = some rq := readU8_at [0x06] _ rq 1 rfl
      have h2 : readU16 (0x06 :: rq :: (leBytes 2 count.toNat ++ data)) 2 = some count :=
        readU16_mid [0x06, rq] data count 2 rfl
      have h3 : ((0x06 : Byte) :: rq :: (leBytes 2 count.toNat ++ data)).drop 4 = data := rfl
      simp only [assemble, h1, h2, h3, List.take_of_length_le hd.1]
      rfl)

theorem xferAbort : Statement .xferAbort := fun _ => rfl

theorem swjSeq (n : Byte) (data : List Byte) : Statement (.swjSeq n data) := fun h => by
  have hd : data.length ≤ swjByteCount n := sequenceDataFits_le n _ h
  have hn := swjByteCount_le n
  exact decodePacket_of_assemble 0x12 (n :: data) .swjSeq _ (by simp; omega) rfl (by simp [minLength])
    (by
      have h1 : readU8 (0x12 :: n :: data) 1 = some n := readU8_at [0x12] data n 1 rfl
      have h2 : ((0x12 : Byte) :: n :: data).drop 2 = data := rfl
      simp only [assemble, h1, h2, Option.map, List.take_of_length_le hd]
      rfl)

theorem writeAbort : Statement .writeAbort := fun _ => rfl

theorem delay : Statement .delay := fun _ => rfl

theorem resetTarget : Statement .resetTarget := fun _ => rfl

theorem swjPins : Statement .swjPins := fun _ => rfl

theorem swjClock : Statement .swjClock := fun _ => rfl

theorem swdCfg : Statement .swdCfg := fun _ => rfl

theorem jtagSeq : Statement .jtagSeq := fun _ => rfl

theorem jtagCfg : Statement .jtagCfg := fun _ => rfl

theorem jtagIdcode : Statement .jtagIdcode := fun _ => rfl

theorem unknown (op : Byte) : Statement (.unknown op) := fun h => by
  simp [decodeAt, Instr.wordPort, encode, decodePacket, Config.packetSize, opcodeOf_unassigned op h, Instr.canonical]

theorem swdHdr (port : Port) (direction : Direction) (index : BitVec 2) : Statement (.swdHdr port direction index) :=
  fun _ => by
    have h : ∀ (p : Port) (d : Direction) (b1 b0 : Bool),
        decodeHeader (headerWord p d (BitVec.ofBool b1 ++ BitVec.ofBool b0)) =
          .ok (headerInstr p d (BitVec.ofBool b1 ++ BitVec.ofBool b0)) := by
      intro p d b1 b0
      cases p <;> cases d <;> cases b1 <;> cases b0 <;> rfl
    have e : ∀ k : BitVec 2, k = BitVec.ofBool (k.getLsbD 1) ++ BitVec.ofBool (k.getLsbD 0) := by decide
    show decodeHeader (headerWord port direction index) = .ok (headerInstr port direction index)
    rw [e index]
    exact h _ _ _ _

theorem swdHdrDpW0 : Statement .swdHdrDpW0 := fun _ => rfl

theorem swdHdrApW0 : Statement .swdHdrApW0 := fun _ => rfl

theorem swdHdrDpR0 : Statement .swdHdrDpR0 := fun _ => rfl

theorem swdHdrApR0 : Statement .swdHdrApR0 := fun _ => rfl

theorem swdHdrDpW1 : Statement .swdHdrDpW1 := fun _ => rfl

theorem swdHdrApW1 : Statement .swdHdrApW1 := fun _ => rfl

theorem swdHdrDpR1 : Statement .swdHdrDpR1 := fun _ => rfl

theorem swdHdrApR1 : Statement .swdHdrApR1 := fun _ => rfl

theorem swdHdrDpW2 : Statement .swdHdrDpW2 := fun _ => rfl

theorem swdHdrApW2 : Statement .swdHdrApW2 := fun _ => rfl

theorem swdHdrDpR2 : Statement .swdHdrDpR2 := fun _ => rfl

theorem swdHdrApR2 : Statement .swdHdrApR2 := fun _ => rfl

theorem swdHdrDpW3 : Statement .swdHdrDpW3 := fun _ => rfl

theorem swdHdrApW3 : Statement .swdHdrApW3 := fun _ => rfl

theorem swdHdrDpR3 : Statement .swdHdrDpR3 := fun _ => rfl

theorem swdHdrApR3 : Statement .swdHdrApR3 := fun _ => rfl

theorem ackOk : Statement .ackOk := fun _ => rfl

theorem ackWait : Statement .ackWait := fun _ => rfl

theorem ackFault : Statement .ackFault := fun _ => rfl

theorem ackInvalid0 : Statement .ackInvalid0 := fun _ => rfl

theorem ackInvalid3 : Statement .ackInvalid3 := fun _ => rfl

theorem ackInvalid5 : Statement .ackInvalid5 := fun _ => rfl

theorem ackInvalid6 : Statement .ackInvalid6 := fun _ => rfl

theorem ackInvalid7 : Statement .ackInvalid7 := fun _ => rfl

end Encoding

end Sys2Proof.Laws
end

