-- ==== Sys2Proof/Tests/Slice0.lean ====
section
/-! SUPPORT. The model's own tests: words written out from the spec's encodings, ill-formed terms the well-formedness
check refuses, one step of a small state against the hand-derived vectors of 95_test_vectors.md (each named by its
identifier there), and for every obligation with hypotheses a concrete case that meets them. -/

open Sys2Proof Sys2Proof.Machine

namespace Sys2Proof.Tests

/-! ### Helpers -/

/-- A fresh block with a configuration and a target's answers. -/
def block (idle : BitVec 8) (wait : BitVec 16) (samples : List Bool) : State :=
  { State.reset with cfg := ⟨idle, wait, 0⟩, samples := samples }

/-- "OK(v)": acknowledgement 1, the value and its parity. -/
def okRead (v : Word) : List Bool := readAnswer v (parity v)

/-- A block with a request waiting. -/
def send (bytes : List Byte) (s : State) : State := { s with inputs := [.packet bytes] }

/-- The state a step answers. -/
def after (s : State) : Option State :=
  match step s with
  | .next t => some t
  | .fault _ => none
  | .refused _ => none

/-- The response to a request: its bytes, `OK_OUT`, and the clock cycles made. -/
def reply (bytes : List Byte) (s : State) : Option (List Byte × Bool × Nat) :=
  (after (send bytes s)).map fun t => (t.response, t.okOut, clockCycles t.trace)

/-- The pin events of a request, oldest first. -/
def events (bytes : List Byte) (s : State) : Option (List PinEvent) :=
  (after (send bytes s)).map fun t => t.trace.reverse

/-- The table of 95_test_vectors.md section 2.7. -/
def exampleTable (id : Byte) : Option Config.InfoValue :=
  if id = 0x01 then some ⟨[], by decide⟩
  else if id = 0x04 then some ⟨[0x31, 0x2E, 0x30, 0x00], by decide⟩
  else if id = 0xF0 then some ⟨[0x01], by decide⟩
  else none

/-- A value's bits as wire symbols, for the lines "W.." and "R.." of the vectors. -/
def ws (bits : List Nat) : List WireSymbol := bits.map fun b => .w (b == 1)
def rs (bits : List Nat) : List WireSymbol := bits.map fun b => .r (b == 1)

/-! ### Words written out from the spec's encodings (30_encoding.md R74, R76, R77, R93, R96) -/

theorem test_decode_control :
    decodePacket 2 [0x00, 0x04] = .ok (.info 0x04) ∧
    decodePacket 3 [0x01, 0x00, 0x01] = .ok (.hostStatus 0x00 0x01) ∧
    decodePacket 2 [0x02, 0xFF] = .ok (.connect 0xFF) ∧
    decodePacket 3 [0x03, 0xAA, 0xBB] = .ok .disconnect ∧
    decodePacket 6 [0x04, 0x01, 0x34, 0x12, 0x78, 0x56] = .ok (.xferCfg 1 0x1234 0x5678) ∧
    decodePacket 4 [0x07, 0x01, 0x02, 0x03] = .ok .xferAbort := ⟨rfl, rfl, rfl, rfl, rfl, rfl⟩

theorem test_decode_transfer :
    decodePacket 6 [0x05, 0x05, 0x78, 0x56, 0x34, 0x12] = .ok (.xfer 0x05 0x12345678) ∧
    decodePacket 4 [0x06, 0x0F, 0x04, 0x00] = .ok (.xferBlk 0x0F 4 []) ∧
    decodePacket 11 [0x06, 0x0D, 0x02, 0x00, 0xEF, 0xBE, 0xAD, 0xDE, 0x01, 0x00, 0x00] =
      .ok (.xferBlk 0x0D 2 [0xEF, 0xBE, 0xAD, 0xDE, 0x01, 0x00, 0x00]) ∧
    decodePacket 4 [0x12, 0x10, 0x9E, 0xE7] = .ok (.swjSeq 0x10 [0x9E, 0xE7]) := ⟨rfl, rfl, rfl, rfl⟩

theorem test_decode_unimplemented :
    decodePacket 6 [0x08, 0x00, 0x1E, 0x00, 0x00, 0x00] = .ok .writeAbort ∧
    decodePacket 3 [0x09, 0xE8, 0x03] = .ok .delay ∧
    decodePacket 1 [0x0A] = .ok .resetTarget ∧
    decodePacket 7 [0x10, 0x80, 0x80, 0x00, 0x00, 0x00, 0x00] = .ok .swjPins ∧
    decodePacket 5 [0x11, 0x40, 0x42, 0x0F, 0x00] = .ok .swjClock ∧
    decodePacket 2 [0x13, 0x00] = .ok .swdCfg ∧
    decodePacket 4 [0x14, 0x01, 0x08, 0xFF] = .ok .jtagSeq ∧
    decodePacket 3 [0x15, 0x01, 0x04] = .ok .jtagCfg ∧
    decodePacket 2 [0x16, 0x00] = .ok .jtagIdcode ∧
    decodePacket 2 [0x7F, 0x01] = .ok (.unknown 0x7F) ∧
    decodePacket 2 [0x80, 0x01] = .ok (.unknown 0x80) :=
  ⟨rfl, rfl, rfl, rfl, rfl, rfl, rfl, rfl, rfl, rfl, rfl⟩

/-- The sixteen rows of section 2.1: the eight bits in wire order (start, APnDP, RnW, A2, A3, parity, stop, park), the
word they make, and its instruction. -/
theorem test_decode_headers :
    (wireBits (0x81 : Byte) = [true, false, false, false, false, false, false, true] ∧ decodeHeader 0x81 = .ok .swdHdrDpW0) ∧
    (wireBits (0xA3 : Byte) = [true, true, false, false, false, true, false, true] ∧ decodeHeader 0xA3 = .ok .swdHdrApW0) ∧
    (wireBits (0xA5 : Byte) = [true, false, true, false, false, true, false, true] ∧ decodeHeader 0xA5 = .ok .swdHdrDpR0) ∧
    (wireBits (0x87 : Byte) = [true, true, true, false, false, false, false, true] ∧ decodeHeader 0x87 = .ok .swdHdrApR0) ∧
    (wireBits (0xA9 : Byte) = [true, false, false, true, false, true, false, true] ∧ decodeHeader 0xA9 = .ok .swdHdrDpW1) ∧
    (wireBits (0x8B : Byte) = [true, true, false, true, false, false, false, true] ∧ decodeHeader 0x8B = .ok .swdHdrApW1) ∧
    (wireBits (0x8D : Byte) = [true, false, true, true, false, false, false, true] ∧ decodeHeader 0x8D = .ok .swdHdrDpR1) ∧
    (wireBits (0xAF : Byte) = [true, true, true, true, false, true, false, true] ∧ decodeHeader 0xAF = .ok .swdHdrApR1) ∧
    (wireBits (0xB1 : Byte) = [true, false, false, false, true, true, false, true] ∧ decodeHeader 0xB1 = .ok .swdHdrDpW2) ∧
    (wireBits (0x93 : Byte) = [true, true, false, false, true, false, false, true] ∧ decodeHeader 0x93 = .ok .swdHdrApW2) ∧
    (wireBits (0x95 : Byte) = [true, false, true, false, true, false, false, true] ∧ decodeHeader 0x95 = .ok .swdHdrDpR2) ∧
    (wireBits (0xB7 : Byte) = [true, true, true, false, true, true, false, true] ∧ decodeHeader 0xB7 = .ok .swdHdrApR2) ∧
    (wireBits (0x99 : Byte) = [true, false, false, true, true, false, false, true] ∧ decodeHeader 0x99 = .ok .swdHdrDpW3) ∧
    (wireBits (0xBB : Byte) = [true, true, false, true, true, true, false, true] ∧ decodeHeader 0xBB = .ok .swdHdrApW3) ∧
    (wireBits (0xBD : Byte) = [true, false, true, true, true, true, false, true] ∧ decodeHeader 0xBD = .ok .swdHdrDpR3) ∧
    (wireBits (0x9F : Byte) = [true, true, true, true, true, false, false, true] ∧ decodeHeader 0x9F = .ok .swdHdrApR3) := by
  repeat' constructor

/-- The general header: AP, write, index 3 is the word 0xBB. -/
theorem test_encode_general_header : encode (.swdHdr .ap .write 3) = [0xBB] ∧ encode (.swdHdr .dp .read 1) = [0x8D] :=
  ⟨rfl, rfl⟩

theorem test_decode_acks :
    decodeAck 1 = .ackOk ∧ decodeAck 2 = .ackWait ∧ decodeAck 4 = .ackFault ∧ decodeAck 0 = .ackInvalid0 ∧
    decodeAck 3 = .ackInvalid3 ∧ decodeAck 5 = .ackInvalid5 ∧ decodeAck 6 = .ackInvalid6 ∧ decodeAck 7 = .ackInvalid7 :=
  ⟨rfl, rfl, rfl, rfl, rfl, rfl, rfl, rfl⟩

/-- Bytes that are no header: start bit 0, park bit 0, stop bit 1; a header with the wrong parity. -/
theorem test_decode_rejects_headers :
    decodeHeader 0x80 = .error .notHeader ∧ decodeHeader 0x01 = .error .notHeader ∧
    decodeHeader 0xC1 = .error .notHeader ∧ decodeHeader 0xA1 = .error .headerParity := ⟨rfl, rfl, rfl, rfl⟩

/-- V-D1, V-D2 and V-D8: packets that are no instruction. -/
theorem test_decode_rejects_packets :
    decodePacket 0 [] = .error .badLength ∧ decodePacket 65 (List.replicate 64 0x00) = .error .badLength ∧
    decodePacket 1 [0x00] = .error .truncated ∧ decodePacket 2 [0x01, 0x00] = .error .truncated ∧
    decodePacket 1 [0x02] = .error .truncated ∧
    decodePacket 5 [0x04, 0x09, 0x09, 0x09, 0x09] = .error .truncated ∧
    decodePacket 5 [0x05, 0x02, 0x00, 0x00, 0x00] = .error .truncated ∧
    decodePacket 3 [0x06, 0x0E, 0x01] = .error .truncated ∧ decodePacket 1 [0x12] = .error .truncated :=
  ⟨rfl, rfl, rfl, rfl, rfl, rfl, rfl, rfl, rfl⟩

/-- The opcode table's words: operand bits above `nbits` are 0. -/
theorem test_decode_table_words :
    decodeTableWord 16 0x0400 = some (.info 0x04) ∧ decodeTableWord 48 0x567812340104 = some (.xferCfg 1 0x1234 0x5678) ∧
    decodeTableWord 8 0xA5 = some .swdHdrDpR0 ∧ decodeTableWord 3 2 = some .ackWait ∧
    decodeTableWord 8 0x7F = some (.unknown 0x7F) := ⟨rfl, rfl, rfl, rfl, rfl⟩

/-! ### Well-formedness: an ill-formed term for each check -/

/-- A block read takes no data from its packet. -/
theorem test_wf_refuses_block_read_data : (Instr.xferBlk 0x0F 1 [0x00]).wf = false := rfl
/-- A block write has at most four bytes a word. -/
theorem test_wf_refuses_block_write_excess : (Instr.xferBlk 0x0D 1 [1, 2, 3, 4, 5]).wf = false := rfl
/-- A packet holds at most 60 bytes of block data. -/
theorem test_wf_refuses_block_write_oversize : (Instr.xferBlk 0x0D 16 (List.replicate 61 0)).wf = false := rfl
/-- A raw sequence of 9 bits has at most two bytes. -/
theorem test_wf_refuses_sequence_excess : (Instr.swjSeq 9 [1, 2, 3]).wf = false := rfl
/-- A raw sequence of 256 bits (count byte 0) has at most 32 bytes. -/
theorem test_wf_refuses_sequence_oversize : (Instr.swjSeq 0 (List.replicate 33 0)).wf = false := rfl
/-- An opcode of the table is not an unknown one. -/
theorem test_wf_refuses_known_opcode : (Instr.unknown 0x16).wf = false ∧ (Instr.unknown 0x0A).wf = false := ⟨rfl, rfl⟩

/-! ### Parity and the line primitives (sections 2.2, 2.3) -/

theorem test_parity :
    parity (0x2BA01477 : Word) = false ∧ parity (0x2BA01476 : Word) = true ∧ parity (0xFFFFFFFF : Word) = false ∧
    parity (0x80000000 : Word) = true ∧ parity (0x12345678 : Word) = true ∧ parity (0xDEADBEEF : Word) = false := by
  decide +kernel

theorem test_write_bit_events :
    (writeBit true State.reset).trace.reverse = [.setData true, .setClock false, .delay, .setClock true, .delay] := by
  decide +kernel

theorem test_read_bit_events :
    (readBit (block 0 1 [true])).trace.reverse = [.setClock false, .delay, .getData true, .setClock true, .delay] := by
  decide +kernel

/-! ### The information, connection and configuration commands (section 2.7) -/

/-- V-C1 -/
theorem test_info_known : (infoCommand exampleTable 0x04 State.reset).response = [0x00, 0x04, 0x31, 0x2E, 0x30, 0x00] := by
  decide +kernel
/-- V-C4, E7 -/
theorem test_info_unknown : (infoCommand exampleTable 0x99 State.reset).response = [0x00, 0x00] := by decide +kernel
/-- V-C6 -/
theorem test_hostStatus : reply [0x01, 0xFF, 0xFF] State.reset = some ([0x01, 0x00], true, 0) := by decide +kernel
/-- V-C8 -/
theorem test_connect_one : (after (send [0x02, 0x01] State.reset)).map (fun t => (t.connected, t.response)) =
    some (true, [0x02, 0x01]) := by decide +kernel
/-- V-C9 -/
theorem test_connect_two : (after (send [0x02, 0x02] { State.reset with connected := true })).map
    (fun t => (t.connected, t.response, t.okOut)) = some (false, [0x02, 0x00], true) := by decide +kernel
/-- V-C11 -/
theorem test_disconnect : (after (send [0x03] { State.reset with connected := true })).map
    (fun t => (t.connected, t.response)) = some (false, [0x03, 0x00]) := by decide +kernel
/-- V-D12 -/
theorem test_xferCfg : (after (send [0x04, 0x03, 0x05, 0x00, 0x06, 0x00, 0xAA, 0xBB] (block 7 9 []))).map
    (fun t => (t.cfg, t.response)) = some (⟨3, 5, 6⟩, [0x04, 0x00]) := by decide +kernel
/-- E8 -/
theorem test_xferCfg_short : (after (send [0x04, 0x00, 0x64, 0x00] (block 1 4660 []))).map
    (fun t => (t.cfg, t.response, t.okOut, t.cause)) = some (⟨1, 4660, 0⟩, [0xFF], false, some .truncated) := by
  decide +kernel
/-- V-C17 -/
theorem test_xferAbort : reply [0x07] State.reset = some ([0x07], true, 0) := by decide +kernel

/-! ### Transfer (parts 1 and 2.8) -/

/-- E1, fourth row: the parity bit is 1. -/
theorem test_xfer_read : reply [0x05, 0x07, 0, 0, 0, 0] (block 0 1 (okRead 0x80000000)) =
    some ([0x05, 0x01, 0x00, 0x00, 0x00, 0x80], true, 44) := by decide +kernel
/-- V-T13 -/
theorem test_xfer_write_after_wait :
    events [0x05, 0x05, 0x78, 0x56, 0x34, 0x12] (block 0 3 (ackAnswer 2 ++ ackAnswer 1)) =
      some (wireEvents ([.out] ++ ws [1, 1, 0, 1, 0, 0, 0, 1] ++ [.rel] ++ rs [0, 1, 0] ++
        [.out] ++ ws [1, 1, 0, 1, 0, 0, 0, 1] ++ [.rel] ++ rs [1, 0, 0] ++ [.out] ++
        ws [0, 0, 0, 1, 1, 1, 1, 0, 0, 1, 1, 0, 1, 0, 1, 0, 0, 0, 1, 0, 1, 1, 0, 0, 0, 1, 0, 0, 1, 0, 0, 0] ++
        ws [1])) := by decide +kernel

/-! ### TransferBlock (section 2.9) -/

/-- V-B15 -/
theorem test_xferBlk_retries_afresh :
    reply [0x06, 0x0E, 0x03, 0x00] (block 0 2 (ackAnswer 2 ++ okRead 0xA ++ ackAnswer 2 ++ okRead 0xB ++ ackAnswer 2 ++
      ackAnswer 2)) = some ([0x06, 0x02, 0x00, 0x02, 0x0A, 0, 0, 0, 0x0B, 0, 0, 0], false, 132) := by decide +kernel
/-- V-B11 -/
theorem test_xferBlk_write_stops :
    reply [0x06, 0x0D, 0x03, 0x00, 1, 0, 0, 0, 2, 0, 0, 0, 3, 0, 0, 0] (block 0 1 (ackAnswer 1 ++ ackAnswer 4)) =
      some ([0x06, 0x01, 0x00, 0x04], false, 55) := by decide +kernel

/-! ### SWJ_Sequence (section 2.5) -/

/-- V-S6 -/
theorem test_swjSeq_nine_bits : events [0x12, 0x09, 0x01, 0xFF] State.reset =
    some (wireEvents (.out :: ws [1, 0, 0, 0, 0, 0, 0, 0, 1])) := by decide +kernel
/-- V-S8: a count byte 0 means 256 bits. -/
theorem test_swjSeq_256_bits :
    (after (send (0x12 :: 0x00 :: List.replicate 32 0xA5) State.reset)).map
      (fun t => (t.response, clockCycles t.trace, t.dout, t.dir)) = some ([0x12, 0x00], 256, true, .output) := by
  decide +kernel

/-! ### Class B and unknown opcodes (sections 2.6, 2.10) -/

/-- The nine rows of section 2.10. -/
theorem test_unimplemented :
    ([[0x08, 0x00, 0x1E, 0, 0, 0], [0x09, 0xE8, 0x03], [0x0A], [0x10, 0x80, 0x80, 0, 0, 0, 0], [0x11, 0x40, 0x42, 0x0F, 0],
      [0x13, 0], [0x14, 1, 8, 0xFF], [0x15, 1, 4], [0x16, 0]] : List (List Byte)).map (fun p => reply p State.reset) =
    List.replicate 9 (some ([0xFF], false, 0)) := by decide +kernel
/-- V-D4 -/
theorem test_unknown : (after (send [0x0B, 0x01] State.reset)).map (fun t => (t.response, t.okOut, t.cause)) =
    some ([0xFF], false, some .unknownOpcode) := by decide +kernel

/-! ### The engine with one turnaround cycle, and its results (section 2.4) -/

/-- V-X5 -/
theorem test_read_with_turnaround :
    let t := executeTransfer 1 ⟨.dp, .read, 0, 0⟩ (block 0 1 (okRead 0x2BA01477))
    t.trace.reverse = wireEvents ([.out] ++ ws [1, 0, 1, 0, 0, 1, 0, 1] ++ [.rel, .z] ++ rs [1, 0, 0] ++
      rs [1, 1, 1, 0, 1, 1, 1, 0, 0, 0, 1, 0, 1, 0, 0, 0, 0, 0, 0, 0, 0, 1, 0, 1, 1, 1, 0, 1, 0, 1, 0, 0] ++ rs [0] ++
      [.z]) ∧ t.res = ⟨1, some 0x2BA01477⟩ := by decide +kernel
/-- V-X3: the line is set low before the idle cycles of a write. -/
theorem test_write_idle_cycles :
    let t := executeTransfer 0 ⟨.ap, .write, 1, 0x12345678⟩ (block 2 1 (ackAnswer 1))
    clockCycles t.trace = 46 ∧ t.dout = false ∧ t.dir = .output ∧ t.res = ⟨1, none⟩ := by decide +kernel
/-- V-X17: a parity error still makes the idle cycles. -/
theorem test_parity_error :
    let t := executeTransfer 0 ⟨.dp, .read, 0, 0⟩ (block 2 1 (readAnswer 0x2BA01476 false))
    t.res = ⟨8, none⟩ ∧ clockCycles t.trace = 46 := by decide +kernel
/-- V-X9: a header, its FAULT acknowledgement, no data phase. -/
theorem test_header_fault :
    (match exec .swdHdrApW3 (block 3 1 (ackAnswer 4)) with
      | .next t => t.res = ⟨4, none⟩ ∧ clockCycles t.trace = 11 ∧ t.dir = .input
      | .fault _ => False
      | .refused _ => False) := by
  show _ ∧ _
  decide +kernel

/-! ### A table word runs as the first instruction after reset -/

theorem test_first_packet : (after (State.reset.withFetchWord 48 0x567812340104)).map (fun t => (t.cfg, t.response)) =
    some (⟨1, 0x1234, 0x5678⟩, [0x04, 0x00]) := by decide +kernel
theorem test_first_header : (after ((block 0 1 (ackAnswer 2)).withFetchWord 8 0xA5)).map
    (fun t => (t.req.direction, t.hdr, t.res, t.fsm)) = some (.read, 0xA5, ⟨2, none⟩, .idle) := by decide +kernel
theorem test_first_ack : (after (State.reset.withFetchWord 3 7)).map (fun t => (t.ack, t.res, t.fsm)) =
    some (7, ⟨7, none⟩, .idle) := by decide +kernel
/-- The state machine's first step on a request: the line is taken and no cycle made. -/
theorem test_clocked_start : (after { State.reset with inputs := [.clockedTransfer ⟨.dp, .read, 0, 0⟩] }).map
    (fun t => (t.fsm, t.cnt, t.hdr, t.trace)) = some (.hdr, 0, 0xA5, [.setDirection .output]) := by decide +kernel

/-! ### Cases that meet the hypotheses of each obligation, at the edges of their ranges -/

/-- The block most witnesses use: retry budget 3, no idle cycles. -/
def base (samples : List Bool) : State := block 0 3 samples

theorem witness_EncodeThenDecodeGivesTheInstruction :
    (Instr.xferBlk 0x0D 15 (List.replicate 60 0xA5)).wf = true ∧ (Instr.swjSeq 0 (List.replicate 32 0xFF)).wf = true ∧
    (Instr.unknown 0x0B).wf = true ∧ (Instr.unknown 0xFF).wf = true ∧ Instr.ackInvalid7.wf = true := by decide

theorem witness_DecodedPacketBeginsWithItsEncoding :
    decodePacket [0x06, 0x0D, 0x01, 0x00, 1, 2, 3, 4, 5].length [0x06, 0x0D, 0x01, 0x00, 1, 2, 3, 4, 5] =
      .ok (.xferBlk 0x0D 1 [1, 2, 3, 4]) ∧
    decodePacket (List.replicate 64 (0x12 : Byte)).length (List.replicate 64 0x12) =
      .ok (.swjSeq 0x12 [0x12, 0x12, 0x12]) := ⟨rfl, rfl⟩

theorem witness_RequestFieldsAreLittleEndianAndBounded :
    let bytes : List Byte := List.replicate 63 0x01 ++ [0x02]
    bytes.length ≤ 64 ∧ bytes[63]? = some 0x02 ∧ (bytes[62]? = some 0x01 ∧ bytes[62 + 1]? = some 0x02) ∧
    (bytes[60]? = some 0x01 ∧ bytes[60 + 1]? = some 0x01 ∧ bytes[60 + 2]? = some 0x01 ∧ bytes[60 + 3]? = some 0x02) ∧
    bytes.length < 61 + 4 ∧
    (acceptPacket bytes [] State.reset).reqRead 62 2 = some 0x0201 ∧
    (acceptPacket bytes [] State.reset).reqRead 61 4 = none := by decide +kernel

theorem witness_ResponseFieldsAreLittleEndian :
    60 + 4 ≤ 64 ∧ Memory.wf State.reset.respBuf = true ∧
    Memory.read (State.reset.respWrite 60 4 0x12345678).respBuf 63 = some 0x12 := by decide +kernel

theorem witness_ParityBitMakesTheOnesEven :
    (0 < 32 ∧ parity ((0x2BA01477 : Word) ^^^ 1#32 <<< 0) = !parity (0x2BA01477 : Word)) ∧
    (31 < 32 ∧ parity ((0x2BA01477 : Word) ^^^ 1#32 <<< 31) = !parity (0x2BA01477 : Word)) := by decide +kernel

theorem witness_StepRunsTheDecodedPacket :
    Ready (send [0x02, 0x01] State.reset) [0x02, 0x01] [] ∧
    decodePacket [(0x02 : Byte), 0x01].length ([(0x02 : Byte), 0x01].take 64) = .ok (.connect 0x01) :=
  ⟨⟨rfl, rfl, rfl⟩, rfl⟩

theorem witness_StepRunsTheHeaderOrAcknowledgement :
    (∃ s : State, s.fsm = .idle ∧ s.busy = false ∧ s.inputs = [.header 0xA5 7] ∧ decodeHeader 0xA5 = .ok .swdHdrDpR0) ∧
    (∃ s : State, s.fsm = .idle ∧ s.busy = false ∧ s.inputs = [.request ⟨.ap, .write, 3, 7⟩]) ∧
    (∃ s : State, s.fsm = .idle ∧ s.busy = false ∧ s.inputs = []) ∧
    (∃ s : State, s.fsm = .ackp ∧ s.cnt = 3) :=
  ⟨⟨{ State.reset with inputs := [.header 0xA5 7] }, rfl, rfl, rfl, rfl⟩,
    ⟨{ State.reset with inputs := [.request ⟨.ap, .write, 3, 7⟩] }, rfl, rfl, rfl⟩, ⟨State.reset, rfl, rfl, rfl⟩,
    ⟨{ State.reset with fsm := .ackp, cnt := 3 }, rfl, rfl⟩⟩

theorem witness_ShortRequestIsAnsweredWithTheSentinel :
    let table : List (Byte × Nat) :=
      [(0x00, 2), (0x01, 3), (0x02, 2), (0x03, 1), (0x04, 6), (0x05, 6), (0x06, 4), (0x07, 1), (0x12, 2)]
    (Ready (send [0x04, 0, 0, 0, 0] State.reset) [0x04, 0, 0, 0, 0] [] ∧ ((0x04, 6) : Byte × Nat) ∈ table ∧
      [(0x04 : Byte), 0, 0, 0, 0].head? = some 0x04 ∧ [(0x04 : Byte), 0, 0, 0, 0].length < 6) ∧
    (Ready (send [0x03] State.reset) [0x03] [] ∧ ((0x03, 1) : Byte × Nat) ∈ table ∧
      [(0x03 : Byte)].head? = some 0x03 ∧ 1 ≤ [(0x03 : Byte)].length ∧ [(0x03 : Byte)].length ≤ 64 ∧
      decodePacket [(0x03 : Byte)].length [0x03] = .ok .disconnect) ∧
    (Ready (send (0x12 :: 0x08 :: List.replicate 62 0) State.reset) (0x12 :: 0x08 :: List.replicate 62 0) [] ∧
      ((0x12, 2) : Byte × Nat) ∈ table ∧ 2 ≤ ((0x12 : Byte) :: 0x08 :: List.replicate 62 0).length ∧
      ((0x12 : Byte) :: 0x08 :: List.replicate 62 0).length ≤ 64 ∧
      decodePacket 64 (0x12 :: 0x08 :: List.replicate 62 0) = .ok (.swjSeq 0x08 [0])) :=
  ⟨⟨⟨rfl, rfl, rfl⟩, by decide, rfl, by decide⟩, ⟨⟨rfl, rfl, rfl⟩, by decide, rfl, by decide, by decide, rfl⟩,
    ⟨⟨rfl, rfl, rfl⟩, by decide, by decide, by decide, rfl⟩⟩

theorem witness_EmptyOrOversizedRequestIsRejected :
    (Ready (send [] State.reset) [] [] ∧ ([] : List Byte).length = 0) ∧
    (Ready (send (List.replicate 65 0) State.reset) (List.replicate 65 0) [] ∧ 64 < (List.replicate 65 (0 : Byte)).length) ∧
    reply (List.replicate 65 0) State.reset = some ([0xFF], false, 0) :=
  ⟨⟨⟨rfl, rfl, rfl⟩, rfl⟩, ⟨⟨rfl, rfl, rfl⟩, by decide⟩, by decide +kernel⟩

theorem witness_UnknownInfoIdGivesAZeroLengthValue : exampleTable 0x99 = none ∧ exampleTable 0x77 = none := ⟨rfl, rfl⟩

theorem witness_ConnectAndDisconnectWriteTheFlag :
    ((1 : Byte) = 0 ∨ (1 : Byte) = 1) ∧ ((0 : Byte) = 0 ∨ (0 : Byte) = 1) ∧ ((2 : Byte) ≠ 0 ∧ (2 : Byte) ≠ 1) := by decide

theorem witness_TransferConfigureWritesAllThreeFields :
    (List.replicate 58 (0xEE : Byte)).length ≤ 58 ∧ (List.replicate 4 (0xEE : Byte)).length < 5 ∧
    decodePacket 64 ([0x04, 0x01, 0x34, 0x12, 0x78, 0x56] ++ List.replicate 58 0xEE) = .ok (.xferCfg 1 0x1234 0x5678) ∧
    decodePacket 5 (0x04 :: List.replicate 4 0xEE) = .error .truncated := ⟨by decide, by decide, rfl, rfl⟩

theorem witness_ClassBCommandsAreAnsweredNotImplemented :
    ((0x08, .writeAbort) : Byte × Instr) ∈ ([(0x08, .writeAbort), (0x09, .delay), (0x0A, .resetTarget), (0x10, .swjPins),
      (0x11, .swjClock), (0x13, .swdCfg), (0x14, .jtagSeq), (0x15, .jtagCfg), (0x16, .jtagIdcode)] :
      List (Byte × Instr)) ∧ (List.replicate 63 (0xAA : Byte)).length ≤ 63 ∧
    decodePacket 64 (0x16 :: List.replicate 63 0xAA) = .ok .jtagIdcode := ⟨by decide, by decide, rfl⟩

theorem witness_UnknownOpcodeFallsToTheDefaultHandler :
    (0x0B ≤ (0x0F : Byte).toNat ∧ (0x0F : Byte).toNat ≤ 0x0F) ∧ 0x17 ≤ (0x17 : Byte).toNat ∧ 0x17 ≤ (0xFF : Byte).toNat ∧
    decodePacket 64 (0x17 :: List.replicate 63 0) = .ok (.unknown 0x17) := ⟨by decide, by decide, by decide, rfl⟩

theorem witness_AttemptNotAcknowledgedOkEndsAtOnce :
    ((base (ackAnswer 7 ++ [true])).samples = ackAnswer 7 ++ [true] ∧ (7 : BitVec 3) ≠ 1) ∧
    executeTransfer 2 ⟨.ap, .write, 3, 1⟩ (base (ackAnswer 7 ++ [true])) =
      afterNoData 2 ⟨.ap, .write, 3, 1⟩ 7 [true] (base (ackAnswer 7 ++ [true])) := by decide +kernel

theorem witness_AcknowledgedReadSamplesTheValue :
    (base (readAnswer 0x2BA01477 true ++ [true])).samples = readAnswer 0x2BA01477 true ++ [true] ∧
    executeTransfer 1 ⟨.ap, .read, 3, 9⟩ (base (readAnswer 0x2BA01477 true ++ [true])) =
      afterRead 1 ⟨.ap, .read, 3, 9⟩ 0x2BA01477 true [true] (base (readAnswer 0x2BA01477 true ++ [true])) := by
  decide +kernel

theorem witness_AcknowledgedWriteDrivesTheValue :
    (block 2 1 (ackAnswer 1 ++ [true])).samples = ackAnswer 1 ++ [true] ∧
    executeTransfer 1 ⟨.dp, .write, 3, 0x12345678⟩ (block 2 1 (ackAnswer 1 ++ [true])) =
      afterWrite 1 ⟨.dp, .write, 3, 0x12345678⟩ [true] (block 2 1 (ackAnswer 1 ++ [true])) := by
  decide +kernel

theorem witness_AcknowledgementsOtherThanOkEndTheAttempt :
    ((.ackWait, 2) : Instr × BitVec 3) ∈ ([(.ackWait, 2), (.ackFault, 4), (.ackInvalid0, 0), (.ackInvalid3, 3),
      (.ackInvalid5, 5), (.ackInvalid6, 6), (.ackInvalid7, 7)] : List (Instr × BitVec 3)) := by decide

theorem witness_AcknowledgementOkOpensTheDataPhase :
    (∃ s : State, s.req.direction = .read ∧ s.samples = wireBits (0x80000000 : Word) ++ true :: []) ∧
    (∃ s : State, s.req.direction = .write) :=
  ⟨⟨{ base (wireBits (0x80000000 : Word) ++ [true]) with req := ⟨.dp, .read, 0, 0⟩ }, rfl, rfl⟩, ⟨State.reset, rfl⟩⟩

theorem witness_LineAndClockAtTheEndOfAnOperation :
    (1 : BitVec 32) ≠ 0 ∧ (generateSequence 1 [0xFE] State.reset).dout = false := by decide +kernel

theorem witness_StepsOfAClockedTransferReachItsResult :
    let s : State := { base (ackAnswer 2) with inputs := [.clockedTransfer ⟨.dp, .read, 0, 0⟩] }
    s.fsm = .idle ∧ s.busy = false ∧ s.inputs = [.clockedTransfer ⟨.dp, .read, 0, 0⟩] := ⟨rfl, rfl, rfl⟩

/-- The state machine makes what the pseudocode makes: a write with turnaround and idle cycles. -/
theorem test_clocked_write_equals_pseudocode :
    let s := block 2 1 (ackAnswer 1)
    runClock 1 48 (startTransfer ⟨.ap, .write, 1, 0x12345678⟩ s) = executeTransfer 1 ⟨.ap, .write, 1, 0x12345678⟩ s := by
  decide +kernel

theorem witness_LoopbackRoundTrip :
    let s := block 1 1 (ackAnswer 1)
    let t := executeTransfer 0 ⟨.ap, .write, 0, 0xDEADBEEF⟩ s
    let driven := ((dataLevels t.trace).drop (if s.cfg.idleCycles = 0 then 0 else 1)).take 33
    let s' := block 0 1 (ackAnswer 1 ++ driven.reverse ++ [])
    s.samples = ackAnswer 1 ++ [] ∧ s'.samples = ackAnswer 1 ++ driven.reverse ++ [] ∧
    (executeTransfer 0 ⟨.ap, .read, 0, 0⟩ s').res = ⟨1, some 0xDEADBEEF⟩ := by decide +kernel

theorem witness_ReservedRequestBitsAreRejected :
    (0x12 : Byte) &&& 0xF0#8 ≠ 0 ∧ (0x80 : Byte) &&& 0xF0#8 ≠ 0 ∧
    reply [0x05, 0x80, 0, 0, 0, 0] State.reset = some ([0xFF], false, 0) := by decide +kernel

theorem witness_TransferReadAfterWaits :
    let s := base (waits 2 ++ readAnswer 0xCAFEF00D false ++ [])
    (0x02 : Byte) &&& 0xF0#8 = 0 ∧ (0x02 : Byte).getLsbD 1 = true ∧ 2 < max 1 s.cfg.waitRetry.toNat ∧
    s.samples = waits 2 ++ readAnswer 0xCAFEF00D false ++ [] ∧
    reply [0x05, 0x02, 0, 0, 0, 0] s = some ([0x05, 0x01, 0x0D, 0xF0, 0xFE, 0xCA], true, 66) := by decide +kernel

theorem witness_TransferWriteAfterWaits :
    let s := base (waits 2 ++ ackAnswer 1 ++ [])
    (0x05 : Byte) &&& 0xF0#8 = 0 ∧ (0x05 : Byte).getLsbD 1 = false ∧ 2 < max 1 s.cfg.waitRetry.toNat ∧
    s.samples = waits 2 ++ ackAnswer 1 ++ [] ∧
    reply [0x05, 0x05, 0x78, 0x56, 0x34, 0x12] s = some ([0x05, 0x01], true, 66) := by decide +kernel

theorem witness_TransferReportsTheFirstOtherAcknowledgement :
    let s := base (waits 1 ++ ackAnswer 7 ++ [])
    (0x02 : Byte) &&& 0xF0#8 = 0 ∧ 1 < max 1 s.cfg.waitRetry.toNat ∧ (7 : BitVec 3) ≠ 1 ∧ (7 : BitVec 3) ≠ 2 ∧
    s.samples = waits 1 ++ ackAnswer 7 ++ [] ∧
    reply [0x05, 0x02, 0, 0, 0, 0] s = some ([0x05, 0x07], false, 22) := by decide +kernel

theorem witness_TransferGivesUpWhenTheBudgetIsSpent :
    (let s := base (waits (max 1 (3 : BitVec 16).toNat) ++ [true])
     (0x02 : Byte) &&& 0xF0#8 = 0 ∧ s.samples = waits (max 1 s.cfg.waitRetry.toNat) ++ [true] ∧
      reply [0x05, 0x02, 0, 0, 0, 0] s = some ([0x05, 0x02], false, 33)) ∧
    (let s := block 0 0 (waits 1 ++ [true])
     s.samples = waits (max 1 s.cfg.waitRetry.toNat) ++ [true] ∧
      reply [0x05, 0x02, 0, 0, 0, 0] s = some ([0x05, 0x02], false, 11)) := by decide +kernel

theorem witness_FlippedReadBitIsNotSurfaced :
    let s := base (readAnswer ((0x2BA01477 : Word) ^^^ 1#32 <<< 31) (parity (0x2BA01477 : Word)) ++ [])
    (0x02 : Byte) &&& 0xF0#8 = 0 ∧ (0x02 : Byte).getLsbD 1 = true ∧ 31 < 32 ∧
    s.samples = readAnswer ((0x2BA01477 : Word) ^^^ 1#32 <<< 31) (parity (0x2BA01477 : Word)) ++ [] ∧
    reply [0x05, 0x02, 0, 0, 0, 0] s = some ([0x05, 0x08], false, 44) := by decide +kernel

/-- E5 -/
theorem witness_BlockReadReportsItsProgress :
    let vs : List (Nat × Word) := [(0, 0x11111111), (0, 0x22222222)]
    let s := block 0 1 (blockReadAnswers vs ++ waits 0 ++ ackAnswer 4 ++ [])
    (0x0F : Byte) &&& 0xF0#8 = 0 ∧ (0x0F : Byte).getLsbD 1 = true ∧ (5 : BitVec 16).toNat ≤ 15 ∧
    vs.length < (5 : BitVec 16).toNat ∧ (∀ kv ∈ vs, kv.1 < max 1 s.cfg.waitRetry.toNat) ∧
    0 < max 1 s.cfg.waitRetry.toNat ∧ (4 : BitVec 3) ≠ 1 ∧ (4 : BitVec 3) ≠ 2 ∧
    s.samples = blockReadAnswers vs ++ waits 0 ++ ackAnswer 4 ++ [] ∧
    reply [0x06, 0x0F, 0x05, 0x00] s =
      some ([0x06, 0x02, 0x00, 0x04, 0x11, 0x11, 0x11, 0x11, 0x22, 0x22, 0x22, 0x22], false, 99) := by decide +kernel

/-- V-B14, V-B15 -/
theorem witness_BlockReadStopsOnParityErrorOrSpentBudget :
    (let vs : List (Nat × Word) := [(0, 0xAAAA5555)]
     let s := block 0 1 (blockReadAnswers vs ++ waits 0 ++ readAnswer 1 (!parity (1 : Word)) ++ [])
     (0x0E : Byte) &&& 0xF0#8 = 0 ∧ (0x0E : Byte).getLsbD 1 = true ∧ (3 : BitVec 16).toNat ≤ 15 ∧
      vs.length < (3 : BitVec 16).toNat ∧ (∀ kv ∈ vs, kv.1 < max 1 s.cfg.waitRetry.toNat) ∧
      0 < max 1 s.cfg.waitRetry.toNat ∧
      s.samples = blockReadAnswers vs ++ waits 0 ++ readAnswer 1 (!parity (1 : Word)) ++ [] ∧
      reply [0x06, 0x0E, 0x03, 0x00] s = some ([0x06, 0x01, 0x00, 0x08, 0x55, 0x55, 0xAA, 0xAA], false, 88)) ∧
    (let vs : List (Nat × Word) := [(1, 0xA), (1, 0xB)]
     let s := block 0 2 (blockReadAnswers vs ++ waits 2 ++ [])
     vs.length < (3 : BitVec 16).toNat ∧ (∀ kv ∈ vs, kv.1 < max 1 s.cfg.waitRetry.toNat) ∧
      s.samples = blockReadAnswers vs ++ waits (max 1 s.cfg.waitRetry.toNat) ++ [] ∧
      reply [0x06, 0x0E, 0x03, 0x00] s =
        some ([0x06, 0x02, 0x00, 0x02, 0x0A, 0, 0, 0, 0x0B, 0, 0, 0], false, 132)) := by decide +kernel

theorem witness_BlockReadCompletes :
    (let vs : List (Nat × Word) := [(2, 0x01020304), (0, 0xFFFFFFFF)]
     let s := base (blockReadAnswers vs ++ [])
     (0x0E : Byte) &&& 0xF0#8 = 0 ∧ (0x0E : Byte).getLsbD 1 = true ∧ (2 : BitVec 16).toNat ≤ 15 ∧
      vs.length = (2 : BitVec 16).toNat ∧ (∀ kv ∈ vs, kv.1 < max 1 s.cfg.waitRetry.toNat) ∧
      s.samples = blockReadAnswers vs ++ [] ∧
      reply [0x06, 0x0E, 0x02, 0x00] s = some ([0x06, 0x02, 0x00, 0x01, 4, 3, 2, 1, 0xFF, 0xFF, 0xFF, 0xFF], true, 110)) ∧
    (let vs : List (Nat × Word) := []
     (0 : BitVec 16).toNat ≤ 15 ∧ vs.length = (0 : BitVec 16).toNat ∧ (base []).samples = blockReadAnswers vs ++ [] ∧
      reply [0x06, 0x02, 0x00, 0x00] (base []) = some ([0x06, 0x00, 0x00, 0x00], true, 0)) := by decide +kernel

/-- V-B4: fifteen words fill the response. -/
theorem witness_BlockReadCompletes_fifteen :
    let vs : List (Nat × Word) := (List.range 15).map fun i => (0, BitVec.ofNat 32 (0x01010101 * (i + 1)))
    (15 : BitVec 16).toNat ≤ 15 ∧ vs.length = (15 : BitVec 16).toNat ∧
    (reply [0x06, 0x0E, 0x0F, 0x00] (block 0 1 (blockReadAnswers vs))).map (fun r => (r.1.length, r.1.getLast?, r.2)) =
      some (64, some 0x0F, true, 660) := by decide +kernel

theorem witness_BlockWriteReportsItsProgress :
    (let ks := [2, 0]
     let s := base (blockWriteAnswers ks ++ [])
     (0x0D : Byte) &&& 0xF0#8 = 0 ∧ (0x0D : Byte).getLsbD 1 = false ∧
      4 * (2 : BitVec 16).toNat ≤ (List.replicate 8 (0 : Byte)).length ∧ (2 : BitVec 16).toNat ≤ 15 ∧
      (∀ k ∈ ks, k < max 1 s.cfg.waitRetry.toNat) ∧ ks.length = (2 : BitVec 16).toNat ∧
      s.samples = blockWriteAnswers ks ++ [] ∧
      reply ([0x06, 0x0D, 0x02, 0x00] ++ List.replicate 8 0) s = some ([0x06, 0x02, 0x00, 0x01], true, 110)) ∧
    (let ks := [0]
     let s := base (blockWriteAnswers ks ++ waits 2 ++ ackAnswer 4 ++ [])
     ks.length < (2 : BitVec 16).toNat ∧ 2 < max 1 s.cfg.waitRetry.toNat ∧ (4 : BitVec 3) ≠ 1 ∧ (4 : BitVec 3) ≠ 2 ∧
      s.samples = blockWriteAnswers ks ++ waits 2 ++ ackAnswer 4 ++ [] ∧
      reply ([0x06, 0x0D, 0x02, 0x00] ++ List.replicate 8 0) s = some ([0x06, 0x01, 0x00, 0x04], false, 77)) ∧
    (let ks := [2]
     let s := base (blockWriteAnswers ks ++ waits 3 ++ [true])
     (∀ k ∈ ks, k < max 1 s.cfg.waitRetry.toNat) ∧ ks.length < (2 : BitVec 16).toNat ∧
      s.samples = blockWriteAnswers ks ++ waits (max 1 s.cfg.waitRetry.toNat) ++ [true] ∧
      reply ([0x06, 0x0D, 0x02, 0x00] ++ List.replicate 8 0) s = some ([0x06, 0x01, 0x00, 0x02], false, 99)) ∧
    (let ks : List Nat := []
     let s := block 0 0 (blockWriteAnswers ks ++ waits 1 ++ [true])
     ks.length < (15 : BitVec 16).toNat ∧ 4 * (15 : BitVec 16).toNat ≤ (List.replicate 60 (0 : Byte)).length ∧
      s.samples = blockWriteAnswers ks ++ waits (max 1 s.cfg.waitRetry.toNat) ++ [true] ∧
      reply ([0x06, 0x0D, 0x0F, 0x00] ++ List.replicate 60 0) s = some ([0x06, 0x00, 0x00, 0x02], false, 11)) := by
  decide +kernel

/-- V-B7 -/
theorem witness_BlockWriteDrivesItsWordsInOrder :
    let data : List Byte := [0xEF, 0xBE, 0xAD, 0xDE, 0x01, 0x00, 0x00, 0x00]
    let s := block 0 1 (blockWriteAnswers (List.replicate (2 : BitVec 16).toNat 0) ++ [])
    (0x0D : Byte) &&& 0xF0#8 = 0 ∧ (0x0D : Byte).getLsbD 1 = false ∧ 4 * (2 : BitVec 16).toNat ≤ data.length ∧
    (2 : BitVec 16).toNat ≤ 15 ∧ s.samples = blockWriteAnswers (List.replicate (2 : BitVec 16).toNat 0) ++ [] ∧
    events ([0x06, 0x0D, 0x02, 0x00] ++ data) s = some (wireEvents (
      writeWire 0 0 ⟨.ap, .write, 3, 0xDEADBEEF⟩ ++ writeWire 0 0 ⟨.ap, .write, 3, 0x00000001⟩)) := by decide +kernel

/-- V-B8, V-B5, V-B10 and a block that fits exactly. -/
theorem witness_BlockThatDoesNotFitIsRejectedWhole :
    (decodePacket [0x06, 0x0D, 0x01, 0x00, 1, 2, 3].length [0x06, 0x0D, 0x01, 0x00, 1, 2, 3] =
        .ok (.xferBlk 0x0D 1 [1, 2, 3]) ∧ (0x0D : Byte) &&& 0xF0#8 = 0 ∧ (0x0D : Byte).getLsbD 1 = false ∧
      [0x06, 0x0D, 0x01, 0x00, (1 : Byte), 2, 3].length < 4 + 4 * (1 : BitVec 16).toNat) ∧
    (decodePacket [0x06, 0x0E, 0x10, 0x00].length [0x06, 0x0E, 0x10, 0x00] = .ok (.xferBlk 0x0E 16 []) ∧
      (0x0E : Byte).getLsbD 1 = true ∧ 64 < 4 + 4 * (16 : BitVec 16).toNat ∧ 15 < (16 : BitVec 16).toNat) ∧
    (decodePacket [0x06, 0x0D, 0x01, 0x00, 1, 2, 3, 4].length [0x06, 0x0D, 0x01, 0x00, 1, 2, 3, 4] =
        .ok (.xferBlk 0x0D 1 [1, 2, 3, 4]) ∧ (1 : BitVec 16).toNat ≤ 15 ∧
      4 + 4 * (1 : BitVec 16).toNat ≤ [0x06, 0x0D, 0x01, 0x00, (1 : Byte), 2, 3, 4].length) :=
  ⟨⟨rfl, by decide, by decide, by decide⟩, ⟨rfl, by decide, by decide, by decide⟩, ⟨rfl, by decide, by decide⟩⟩

/-- V-S8, V-S9 and V-S6, V-S7. -/
theorem witness_SwjSequenceDrivesItsBitsAndAnswers :
    (256 + 7) / 8 ≤ (List.replicate 32 (0xA5 : Byte)).length ∧ (List.replicate 31 (0xA5 : Byte)).length < (256 + 7) / 8 ∧
    (9 + 7) / 8 ≤ [(0x01 : Byte), 0xFF].length ∧ [(0x01 : Byte)].length < (9 + 7) / 8 ∧
    reply (0x12 :: 0x00 :: List.replicate 31 0xA5) State.reset = some ([0xFF], false, 0) ∧
    reply [0x12, 0x09, 0x01] State.reset = some ([0xFF], false, 0) := by decide +kernel

theorem witness_EveryRequestGetsExactlyOneResponse :
    Ready (send [] State.reset) [] [] ∧ Ready (send (List.replicate 65 5) State.reset) (List.replicate 65 5) [] ∧
    (after (send [0x07] State.reset)).map (fun t => t.outbox) = some [⟨[0x07], true⟩] :=
  ⟨⟨rfl, rfl, rfl⟩, ⟨rfl, rfl, rfl⟩, by decide +kernel⟩

theorem witness_ResponseEchoesTheOpcode :
    (Ready (send [0x05, 0x02, 0, 0, 0, 0] (base (ackAnswer 7))) [0x05, 0x02, 0, 0, 0, 0] [] ∧
      decodePacket [(0x05 : Byte), 0x02, 0, 0, 0, 0].length [0x05, 0x02, 0, 0, 0, 0] = .ok (.xfer 0x02 0) ∧
      (0x02 : Byte) &&& 0xF0#8 = 0 ∧ reply [0x05, 0x02, 0, 0, 0, 0] (base (ackAnswer 7)) = some ([0x05, 0x07], false, 11)) ∧
    (Ready (send [0x06, 0x0E, 0x03, 0x00] (base (ackAnswer 7))) [0x06, 0x0E, 0x03, 0x00] [] ∧
      decodePacket [(0x06 : Byte), 0x0E, 0x03, 0x00].length [0x06, 0x0E, 0x03, 0x00] = .ok (.xferBlk 0x0E 3 []) ∧
      blockCheck 0x0E 3 [] = none ∧ 0 < (3 : BitVec 16).toNat ∧
      reply [0x06, 0x0E, 0x03, 0x00] (base (ackAnswer 7)) = some ([0x06, 0x00, 0x00, 0x07], false, 11)) ∧
    (∃ t, step (send [0xAB] State.reset) = .next t ∧ t.cause ≠ none) :=
  ⟨⟨⟨rfl, rfl, rfl⟩, rfl, by decide, by decide +kernel⟩, ⟨⟨rfl, rfl, rfl⟩, rfl, by decide, by decide, by decide +kernel⟩,
    ⟨_, rfl, by decide +kernel⟩⟩

theorem witness_ResponseLengthStaysInsideTheBuffer :
    (Instr.xferBlk 0x0F 15 []).wordPort = .packet ∧ (Instr.unknown 0xFF).wordPort = .packet := ⟨rfl, rfl⟩

theorem witness_RejectedCommandChangesNothing :
    (Instr.xferBlk 0x0E 16 []).wordPort = .packet ∧
    exec (.xferBlk 0x0E 16 []) State.reset = .next (errorResponse .responseTooLong State.reset) ∧
    (errorResponse .responseTooLong State.reset).cause ≠ none := ⟨rfl, rfl, by decide⟩

theorem witness_StatusOutputSaysWhetherItFailed :
    Instr.disconnect.wordPort = .packet ∧ (∃ t, exec .disconnect State.reset = .next t) ∧
    (Instr.xfer 0x02 0).wordPort = .packet ∧ (∃ t, exec (.xfer 0x02 0) (base (waits 3)) = .next t) :=
  ⟨rfl, ⟨_, rfl⟩, rfl, ⟨_, rfl⟩⟩

/-- Connect changes the flag, SWJ_Sequence the operands of a sequence, a header the request, TransferBlock the counts. -/
theorem witness_WhoWritesWhat :
    (∃ t, exec (.connect 1) State.reset = .next t ∧ t.connected ≠ State.reset.connected ∧ callsNoPin (.connect 1) = true) ∧
    (∃ t, exec (.xferCfg 1 2 3) State.reset = .next t ∧ t.cfg ≠ State.reset.cfg) ∧
    (∃ t, exec (.swjSeq 8 [0x55]) State.reset = .next t ∧ t.seqCount ≠ State.reset.seqCount) ∧
    (∃ t, exec .swdHdrApR3 (base (waits 1)) = .next t ∧ t.req ≠ (base (waits 1)).req ∧
      Instr.swdHdrApR3.wordPort ≠ .packet) ∧
    (∃ t, exec (.xferBlk 0x01 1 [1, 2, 3, 4]) (base (ackAnswer 1)) = .next t ∧ t.doneCount ≠ (base (ackAnswer 1)).doneCount ∧
      t.retryCount ≠ (base (ackAnswer 1)).retryCount) :=
  ⟨⟨_, rfl, by decide +kernel, rfl⟩, ⟨_, rfl, by decide +kernel⟩, ⟨_, rfl, by decide +kernel⟩,
    ⟨_, rfl, by decide +kernel, by decide⟩, ⟨_, rfl, by decide +kernel, by decide +kernel⟩⟩

theorem witness_ResponseDependsOnConfigurationAndAnswersAlone :
    let s := base (waits 1)
    let s' : State := { s with connected := true, dir := .output, dout := true, shift := 0xFFFFFFFF, respLen := 7 }
    (Instr.xfer 0x02 0).wordPort = .packet ∧ s.cfg = s'.cfg ∧ s.samples = s'.samples ∧ s.trace = s'.trace ∧ s ≠ s' :=
  ⟨rfl, rfl, rfl, rfl, by decide⟩

theorem witness_EveryStepOnlyAddsPinEvents : ∃ t, step (send [0x12, 0x01, 0x01] State.reset) = .next t ∧ t.trace ≠ [] :=
  ⟨_, rfl, by decide +kernel⟩

/-- The first event made by each kind of input: a packet, a header, a request, a clocked transfer, a clocked sequence of
no bit; and a step after it, inside a header. -/
theorem witness_FirstPinEventTakesTheLine :
    let first (input : Input) : Option (Option PinEvent) :=
      (after { base (ackAnswer 2) with inputs := [input] }).map fun t => t.trace.getLast?
    (base (ackAnswer 2)).trace = [] ∧ (base (ackAnswer 2)).fsm = .idle ∧
    [Input.packet [0x12, 0x01, 0x01], .header 0xA5 7, .request ⟨.ap, .write, 3, 7⟩, .clockedTransfer ⟨.dp, .read, 0, 0⟩,
      .clockedSequence 0 []].map first = List.replicate 5 (some (some (.setDirection .output))) ∧
    (let s := startTransfer ⟨.dp, .read, 0, 0⟩ (base [])
     s.trace ≠ [] ∧ s.trace.getLast? = some (.setDirection .output) ∧
      (after s).map (fun t => (t.trace.length, t.trace.getLast?)) = some (6, some (.setDirection .output))) := by
  decide +kernel

/-- A fresh block with something at its inputs meets the invariant. -/
theorem fresh_inv (inputs : List Input) (samples : List Bool) :
    Inv { State.reset with inputs := inputs, samples := samples } where
  line := ⟨rfl, fun _ h => by simp [State.reset, State.resetWith, phaseDirection] at h,
    fun _ h => by simp [State.reset, State.resetWith, lineDirection] at h⟩
  clock := fun h => by simp [State.reset, State.resetWith] at h
  phase := .inl rfl
  buffer := ⟨rfl, rfl, Nat.zero_le _, rfl⟩

/-- A block inside a header, and one at a complete acknowledgement, meet the invariant too. -/
theorem header_phase_inv : Inv (startTransfer ⟨.dp, .read, 0, 0⟩ State.reset) where
  line := ⟨rfl, fun _ h => h, fun _ h => by cases h; rfl⟩
  clock := fun h => by
    obtain ⟨l, h⟩ := h
    exact absurd h (by simp [startTransfer, enterHeader, setDirection, enterPhase, latchRequest, State.reset, State.resetWith])
  phase := .inr ⟨.inl (by decide), fun h => by cases h⟩
  buffer := ⟨rfl, rfl, Nat.zero_le _, rfl⟩

theorem witness_EveryStepKeepsTheInvariant :
    (Inv { State.reset with inputs := [.packet [0x02, 0x01]], samples := [] } ∧
      ∃ t, step { State.reset with inputs := [.packet [0x02, 0x01]], samples := [] } = .next t) ∧
    (Inv (startTransfer ⟨.dp, .read, 0, 0⟩ State.reset) ∧
      ∃ t, step (startTransfer ⟨.dp, .read, 0, 0⟩ State.reset) = .next t) :=
  ⟨⟨fresh_inv _ _, ⟨_, rfl⟩⟩, ⟨header_phase_inv, ⟨_, rfl⟩⟩⟩

/-- A packet, one of the sixteen headers, and a sequence of 9 bits in exactly two bytes at the head of the inputs. -/
theorem witness_NoReachableStepFaults :
    let s (input : Input) : State := { State.reset with inputs := [input], samples := [] }
    let Met (s : State) : Prop := Inv s ∧
      (∀ w v, s.inputs.head? = some (.header w v) → ∃ p d k, w = headerWord p d k) ∧
      (∀ n bits, s.inputs.head? = some (.clockedSequence n bits) → (n.toNat + 7) / 8 ≤ bits.length)
    Met (s (.packet [0x02, 0x01])) ∧ Met (s (.header 0x9F 7)) ∧ Met (s (.clockedSequence 9 [0xFF, 0x01])) := by
  refine ⟨⟨fresh_inv _ _, ?_, ?_⟩, ⟨fresh_inv _ _, ?_, ?_⟩, ⟨fresh_inv _ _, ?_, ?_⟩⟩ <;> intro _ _ h <;> cases h
  · exact ⟨.ap, .read, 3, rfl⟩
  · decide

theorem witness_EngineEntryRefusesBrokenPreconditions :
    (∃ s : State, s.fsm = .idle ∧ s.busy = false ∧ s.inputs = [.clockedSequence 9 [0xFF]] ∧
      [(0xFF : Byte)].length < ((9 : BitVec 32).toNat + 7) / 8) ∧
    (∃ s : State, s.fsm = .idle ∧ s.busy = false ∧ s.inputs = [.header 0xA1 0] ∧
      ∀ p d k, (0xA1 : Byte) ≠ headerWord p d k) ∧
    (∃ s : State, s.fsm = .idle ∧ s.busy = true) :=
  ⟨⟨{ State.reset with inputs := [.clockedSequence 9 [0xFF]] }, rfl, rfl, rfl, by decide⟩,
    ⟨{ State.reset with inputs := [.header 0xA1 0] }, rfl, rfl, rfl, fun p d => by cases p <;> cases d <;> decide⟩,
    ⟨{ State.reset with busy := true }, rfl, rfl⟩⟩

end Sys2Proof.Tests
end

section
/-! PROOF. The state family (10_state.md): what reset leaves, and who writes which part of the state. -/

namespace Sys2Proof.Machine

/-! ### The state after reset -/

/-- Before the first pin event an idle engine keeps the line discipline (70_reset_and_hazards.md R342). -/
theorem lineInv_of_no_event {s : State} (ht : s.trace = []) (hf : s.fsm = .idle) : LineInv s := by
  refine ⟨?_, fun d h => ?_, fun d h => ?_⟩
  · simp [ht, disciplined]
  · simp [hf, phaseDirection] at h
  · simp [ht, lineDirection] at h

/-- Before the first pin event nothing is asked of the clock. -/
theorem clockInv_of_no_event {s : State} (ht : s.trace = []) : ClockInv s := by
  rintro ⟨l, h⟩
  simp [ht] at h

/-- Settles O56: reset writes its three parameters, and the other values are literals of its definition. -/
theorem resetLeavesTheBlockIdle : Obligations.ResetLeavesTheBlockIdle :=
  ⟨fun _ _ _ => ⟨rfl, rfl, rfl, rfl, rfl⟩, _, _, _, rfl⟩

/-- Settles O57: no pin event was made and the engine is idle, and the buffers list no byte. -/
theorem resetStateMeetsTheInvariant : Obligations.ResetStateMeetsTheInvariant := fun _ _ _ =>
  { line := lineInv_of_no_event rfl rfl
    clock := clockInv_of_no_event rfl
    phase := .inl rfl
    buffer := ⟨rfl, rfl, Nat.zero_le _, rfl⟩ }

/-! ### Footprints: the part of the state an operation may write -/

/-- A part of the state: `put s u` is `s` with that part taken from `u`. -/
structure Footprint where
  put : State → State → State
  put_put : ∀ s u v, put (put s u) v = put s v
  put_self : ∀ s, put s s = s

/-- `t` differs from `s` inside the footprint alone. -/
def Writes (F : Footprint) (s t : State) : Prop := ∃ u, t = F.put s u

theorem Writes.refl (F : Footprint) (s : State) : Writes F s s := ⟨s, (F.put_self s).symm⟩

theorem Writes.trans {F : Footprint} {s t u : State} (h : Writes F s t) (h' : Writes F t u) : Writes F s u := by
  obtain ⟨a, rfl⟩ := h
  obtain ⟨b, rfl⟩ := h'
  exact ⟨b, F.put_put s a b⟩

/-- A phase whose cycles stay inside a footprint stays inside it. -/
theorem Writes.forCnt {F : Footprint} (op : Nat → State → State) (h : ∀ k s, Writes F s (op k s)) (n : Nat)
    (s : State) : Writes F s (forCnt op n s) :=
  forCnt_rel (Writes F s) op (fun k t ht => ht.trans (h k t)) n s (.refl F s)

namespace Footprint

/-- The response and the dispatcher's registers: what a handler writes to answer (42_dap_dispatch.md R184). -/
def ofReply : Footprint where
  put s u := { s with
    busy := u.busy, rp := u.rp, wp := u.wp, respBuf := u.respBuf, respLen := u.respLen, okOut := u.okOut
    cause := u.cause }
  put_put _ _ _ := rfl
  put_self _ := rfl

/-- The pins, the wire and the registers of an attempt: what `execute_transfer` writes (10_state.md R38). -/
def ofAttempt : Footprint where
  put s u := { s with
    dir := u.dir, clk := u.clk, dout := u.dout, req := u.req, res := u.res, hdr := u.hdr, ack := u.ack
    shift := u.shift, par := u.par, perr := u.perr, cnt := u.cnt, fsm := u.fsm, trace := u.trace
    samples := u.samples }
  put_put _ _ _ := rfl
  put_self _ := rfl

/-- What Transfer writes: its attempts, their count, its answer (44_dap_transfer.md R246). -/
def ofTransfer : Footprint where
  put s u := { ofReply.put (ofAttempt.put s u) u with retryCount := u.retryCount }
  put_put _ _ _ := rfl
  put_self _ := rfl

/-- What TransferBlock writes: what Transfer does, and the count of sub-transfers (44_dap_transfer.md R256). -/
def ofBlock : Footprint where
  put s u := { ofReply.put (ofAttempt.put s u) u with retryCount := u.retryCount, doneCount := u.doneCount }
  put_put _ _ _ := rfl
  put_self _ := rfl

/-- What SWJ_Sequence writes: the pins, the wire, the sequence's operands, its answer (44_dap_transfer.md R261). -/
def ofSequence : Footprint where
  put s u := { ofReply.put s u with
    dir := u.dir, clk := u.clk, dout := u.dout, cnt := u.cnt, fsm := u.fsm, seqCount := u.seqCount
    seqBits := u.seqBits, trace := u.trace, samples := u.samples }
  put_put _ _ _ := rfl
  put_self _ := rfl

end Footprint

theorem Writes.transfer_of_reply {s t : State} (h : Writes .ofReply s t) : Writes .ofTransfer s t := by
  obtain ⟨u, rfl⟩ := h
  exact ⟨Footprint.ofReply.put s u, rfl⟩

theorem Writes.transfer_of_attempt {s t : State} (h : Writes .ofAttempt s t) : Writes .ofTransfer s t := by
  obtain ⟨u, rfl⟩ := h
  exact ⟨Footprint.ofAttempt.put s u, rfl⟩

theorem Writes.block_of_transfer {s t : State} (h : Writes .ofTransfer s t) : Writes .ofBlock s t := by
  obtain ⟨u, rfl⟩ := h
  exact ⟨Footprint.ofTransfer.put s u, rfl⟩

theorem Writes.sequence_of_reply {s t : State} (h : Writes .ofReply s t) : Writes .ofSequence s t := by
  obtain ⟨u, rfl⟩ := h
  exact ⟨Footprint.ofReply.put s u, rfl⟩

theorem Writes.engineFrame {s t : State} (h : Writes .ofAttempt s t) : EngineFrame s t := by
  obtain ⟨u, rfl⟩ := h
  constructor <;> rfl

/-! ### What a handler writes to answer -/

theorem beginCommand_writes (op : Byte) (s : State) : Writes .ofReply s (beginCommand op s) :=
  ⟨beginCommand op s, rfl⟩

theorem setRequestCursor_writes (rp : Nat) (s : State) : Writes .ofReply s { s with rp := rp } :=
  ⟨{ s with rp := rp }, rfl⟩

theorem endCommand_writes (s : State) : Writes .ofReply s (endCommand s) := ⟨endCommand s, rfl⟩

theorem errorResponse_writes (c : ErrorCause) (s : State) : Writes .ofReply s (errorResponse c s) :=
  ⟨errorResponse c s, rfl⟩

theorem respWriteBytes_writes (off : Nat) (bs : List Byte) (s : State) :
    Writes .ofReply s (s.respWriteBytes off bs) :=
  ⟨{ s with respBuf := (s.respWriteBytes off bs).respBuf }, respWriteBytes_eq bs off s⟩

theorem respWrite_writes (off n v : Nat) (s : State) : Writes .ofReply s (s.respWrite off n v) :=
  respWriteBytes_writes off _ s

/-- An update of the response cursor and of `OK_OUT` stays inside the answer. -/
theorem setAnswer_writes (wp : Nat) (ok : Bool) (s : State) : Writes .ofReply s { s with wp := wp, okOut := ok } :=
  ⟨{ s with wp := wp, okOut := ok }, rfl⟩

/-! ### What an attempt writes, phase by phase -/

theorem turnCycles_writes (n : Nat) (s : State) : Writes .ofAttempt s (turnCycles n s) :=
  .forCnt _ (fun _ s => ⟨turnCycle s, rfl⟩) n s

theorem setDirection_writes (d : LineDir) (s : State) : Writes .ofAttempt s (setDirection d s) :=
  ⟨setDirection d s, rfl⟩

theorem writeBit_writes (b : Bool) (s : State) : Writes .ofAttempt s (writeBit b s) := ⟨writeBit b s, rfl⟩

theorem readBit_writes (s : State) : Writes .ofAttempt s (readBit s) := ⟨readBit s, rfl⟩

theorem setRegisters_writes (ack : BitVec 3) (shift : BitVec 32) (par perr : Bool) (s : State) :
    Writes .ofAttempt s { s with ack := ack, shift := shift, par := par, perr := perr } :=
  ⟨{ s with ack := ack, shift := shift, par := par, perr := perr }, rfl⟩

theorem sampleAckBit_writes (k : Nat) (s : State) : Writes .ofAttempt s (sampleAckBit k s) :=
  (readBit_writes s).trans (setRegisters_writes _ _ _ _ _)

theorem sampleDataBit_writes (k : Nat) (s : State) : Writes .ofAttempt s (sampleDataBit k s) :=
  (readBit_writes s).trans (setRegisters_writes _ _ _ _ _)

theorem sampleParityBit_writes (s : State) : Writes .ofAttempt s (sampleParityBit s) :=
  (readBit_writes s).trans (setRegisters_writes _ _ _ _ _)

theorem driveDataBit_writes (k : Nat) (s : State) : Writes .ofAttempt s (driveDataBit k s) :=
  (writeBit_writes _ s).trans (setRegisters_writes _ _ _ _ _)

theorem finishTransfer_writes (r : TransferResult) (s : State) : Writes .ofAttempt s (finishTransfer r s) :=
  ⟨finishTransfer r s, rfl⟩

theorem headerPhase_writes (s : State) : Writes .ofAttempt s (headerPhase s) :=
  (setDirection_writes .output s).trans (.forCnt driveHeaderBit (fun _ s => writeBit_writes _ s) 8 _)

theorem ackPhase_writes (trn : Nat) (s : State) : Writes .ofAttempt s (ackPhase trn s) :=
  ((setDirection_writes .input s).trans (turnCycles_writes trn _)).trans (.forCnt sampleAckBit sampleAckBit_writes 3 _)

theorem noDataPhase_writes (trn : Nat) (s : State) : Writes .ofAttempt s (noDataPhase trn s) :=
  (turnCycles_writes trn s).trans (finishTransfer_writes _ _)

theorem readDataPhase_writes (s : State) : Writes .ofAttempt s (readDataPhase s) :=
  (setRegisters_writes s.ack s.shift false s.perr s).trans (.forCnt sampleDataBit sampleDataBit_writes 32 _)

theorem readPhase_writes (trn : Nat) (s : State) : Writes .ofAttempt s (readPhase trn s) :=
  ((((readDataPhase_writes s).trans (sampleParityBit_writes _)).trans (turnCycles_writes trn _)).trans
    (turnCycles_writes _ _)).trans (finishTransfer_writes _ _)

theorem writeDataPhase_writes (s : State) : Writes .ofAttempt s (writeDataPhase s) :=
  (setRegisters_writes s.ack s.req.value false s.perr s).trans (.forCnt driveDataBit driveDataBit_writes 32 _)

theorem idleCyclesAfterWrite_writes (s : State) : Writes .ofAttempt s (idleCyclesAfterWrite s) := by
  unfold idleCyclesAfterWrite
  split
  · exact .refl _ s
  · exact .trans ⟨setData false s, rfl⟩ (turnCycles_writes _ _)

theorem writePhase_writes (trn : Nat) (s : State) : Writes .ofAttempt s (writePhase trn s) :=
  (((((turnCycles_writes trn s).trans (setDirection_writes .output _)).trans (writeDataPhase_writes _)).trans
    (writeBit_writes _ _)).trans (idleCyclesAfterWrite_writes _)).trans (finishTransfer_writes _ _)

theorem dataPhase_writes (trn : Nat) (s : State) : Writes .ofAttempt s (dataPhase trn s) := by
  unfold dataPhase
  split
  · exact readPhase_writes trn s
  · exact writePhase_writes trn s

theorem afterAck_writes (trn : Nat) (s : State) : Writes .ofAttempt s (afterAck trn s) := by
  unfold afterAck
  split
  · exact dataPhase_writes trn s
  · exact noDataPhase_writes trn s

theorem executeTransfer_writes (trn : Nat) (req : TransferRequest) (s : State) :
    Writes .ofAttempt s (executeTransfer trn req s) :=
  (((Writes.trans ⟨latchRequest req s, rfl⟩ (headerPhase_writes _)).trans (ackPhase_writes trn _))).trans
    (afterAck_writes trn _)

/-- An acknowledgement placed as an instruction goes on as the sampled one does, from `ACK` on. -/
theorem endWithAck_writes (a : BitVec 3) (s : State) : Writes .ofAttempt s (endWithAck a s) :=
  (setRegisters_writes a _ _ _ s).trans (noDataPhase_writes _ _)

/-! ### What the transfer commands write -/

theorem setRetryCount_writes (n : Nat) (s : State) : Writes .ofTransfer s { s with retryCount := n } :=
  ⟨{ s with retryCount := n }, rfl⟩

theorem attempt_writes (trn : Nat) (req : TransferRequest) (s : State) : Writes .ofTransfer s (attempt trn req s) :=
  (executeTransfer_writes trn req s).transfer_of_attempt.trans (setRetryCount_writes _ _)

theorem retryLoop_writes (trn : Nat) (req : TransferRequest) (more : Nat) (s : State) :
    Writes .ofTransfer s (retryLoop trn req more s) := by
  induction more generalizing s with
  | zero => exact attempt_writes trn req s
  | succ more ih =>
    rw [retryLoop_succ]
    split
    · exact (attempt_writes trn req s).trans (ih _)
    · exact attempt_writes trn req s

theorem transferWithRetry_writes (trn : Nat) (req : TransferRequest) (s : State) :
    Writes .ofTransfer s (transferWithRetry trn req s) :=
  (setRetryCount_writes 0 s).trans (retryLoop_writes trn req _ _)

theorem transferResponse_writes (d : Direction) (s : State) : Writes .ofReply s (transferResponse d s) := by
  have hack := (respWrite_writes 1 1 s.res.ack.toNat s).trans (setAnswer_writes 2 (s.okOut && s.res.ack == resOk) _)
  unfold transferResponse
  dsimp only
  split
  · exact (hack.trans (respWrite_writes 2 4 _ _)).trans (setAnswer_writes 6 _ _)
  · exact hack

theorem transferCommand_writes (trn : Nat) (rq : Byte) (operand : Word) (s : State) :
    Writes .ofTransfer s (transferCommand trn rq operand s) := by
  have hbegin := (beginCommand_writes 0x05 s).trans (setRequestCursor_writes 6 _)
  have hend (s : State) := (transferResponse_writes (rqDirection rq) s).trans (endCommand_writes _)
  exact (hbegin.transfer_of_reply.trans (transferWithRetry_writes trn (requestOf rq operand) _)).trans
    (hend _).transfer_of_reply

theorem loadBlockWord_writes (req : TransferRequest) (data : List Byte) (s : State) :
    Writes .ofBlock s (loadBlockWord req data s) := by
  unfold loadBlockWord
  split
  · exact ⟨{ s with req := { req with value := blockWord data s.doneCount }, rp := 8 + 4 * s.doneCount }, rfl⟩
  · exact ⟨{ s with req := { req with value := s.req.value } }, rfl⟩

theorem storeBlockWord_writes (d : Direction) (s : State) : Writes .ofBlock s (storeBlockWord d s) := by
  have hcount (n : Nat) (s : State) : Writes .ofBlock s { s with doneCount := n } := ⟨{ s with doneCount := n }, rfl⟩
  unfold storeBlockWord
  dsimp only
  split
  · exact (respWrite_writes _ _ _ s).transfer_of_reply.block_of_transfer.trans (hcount _ _)
  · exact hcount _ s

/-- A sub-transfer is loaded and run before the loop looks at its acknowledgement (44_dap_transfer.md R252). -/
theorem subTransfer_writes (trn : Nat) (req : TransferRequest) (data : List Byte) (s : State) :
    Writes .ofBlock s (transferWithRetry trn (loadBlockWord req data s).req (loadBlockWord req data s)) :=
  (loadBlockWord_writes req data s).trans (transferWithRetry_writes trn _ _).block_of_transfer

theorem blockLoop_writes (trn : Nat) (req : TransferRequest) (data : List Byte) (more : Nat) (ack : BitVec 4)
    (s : State) : Writes .ofBlock s (blockLoop trn req data more ack s).2 := by
  induction more generalizing ack s with
  | zero => exact .refl _ s
  | succ more ih =>
    rw [blockLoop]
    split
    · exact ((subTransfer_writes trn req data s).trans (storeBlockWord_writes _ _)).trans (ih _ _)
    · exact subTransfer_writes trn req data s

theorem blockResponse_writes (d : Direction) (count : Nat) (ack : BitVec 4) (s : State) :
    Writes .ofReply s (blockResponse d count ack s) :=
  ((respWrite_writes 1 2 _ s).trans (respWrite_writes 3 1 _ _)).trans (setAnswer_writes _ _ _)

theorem blockCommand_writes (trn : Nat) (rq : Byte) (count : BitVec 16) (data : List Byte) (s : State) :
    Writes .ofBlock s (blockCommand trn rq count data s) := by
  have hbegin : Writes .ofBlock s
      { beginCommand 0x06 s with rp := 4, doneCount := 0, req := requestOf rq s.req.value } :=
    ⟨{ beginCommand 0x06 s with rp := 4, doneCount := 0, req := requestOf rq s.req.value }, rfl⟩
  have hend (ack : BitVec 4) (s : State) :=
    (blockResponse_writes (rqDirection rq) count.toNat ack s).trans (endCommand_writes _)
  exact (hbegin.trans (blockLoop_writes trn _ data _ 0 _)).trans (hend _ _).transfer_of_reply.block_of_transfer

/-! ### What SWJ_Sequence writes -/

theorem generateSequence_writes (n : BitVec 32) (bits : List Byte) (s : State) :
    Writes .ofSequence s (generateSequence n bits s) := by
  have hlatch : Writes .ofSequence s (setDirection .output (latchSequence n bits s)) :=
    ⟨setDirection .output (latchSequence n bits s), rfl⟩
  have hfinish (s : State) : Writes .ofSequence s (finishSequence s) := ⟨finishSequence s, rfl⟩
  exact (hlatch.trans (.forCnt _ (fun k s => ⟨driveSequenceBit k s, rfl⟩) _ _)).trans (hfinish _)

theorem sequenceCommand_writes (n : Byte) (data : List Byte) (s : State) :
    Writes .ofSequence s (sequenceCommand n data s) := by
  have hbegin := (beginCommand_writes 0x12 s).trans (setRequestCursor_writes (2 + swjByteCount n) _)
  have hend (s : State) : Writes .ofReply s (endCommand { s.respWrite 1 1 0x00 with wp := 2 }) :=
    ((respWrite_writes 1 1 0x00 s).trans (setAnswer_writes 2 _ _)).trans (endCommand_writes _)
  exact (hbegin.sequence_of_reply.trans (generateSequence_writes _ data _)).trans (hend _).sequence_of_reply

/-! ### What each instruction writes -/

/-- What a command without a pin call writes: its answer, and before it the configuration in TransferConfigure alone
and the flag in Connect and Disconnect alone (43_dap_config_info.md R225). -/
def ControlWrites (i : Instr) (s t : State) : Prop :=
  ∃ cfg connected, Writes .ofReply { s with cfg := cfg, connected := connected } t ∧
    (cfg ≠ s.cfg → ∃ a b c, i = .xferCfg a b c) ∧
    (connected ≠ s.connected → (∃ p, i = .connect p) ∨ i = .disconnect)

theorem ControlWrites.of_reply {i : Instr} {s t : State} (h : Writes .ofReply s t) : ControlWrites i s t :=
  ⟨s.cfg, s.connected, h, absurd rfl, absurd rfl⟩

theorem infoCommand_writes (table : Byte → Option Config.InfoValue) (id : Byte) (s : State) :
    Writes .ofReply s (infoCommand table id s) :=
  (((((beginCommand_writes 0x00 s).trans (setRequestCursor_writes 2 _)).trans (respWrite_writes 1 1 _ _)).trans
    (respWriteBytes_writes 2 _ _)).trans (setAnswer_writes _ _ _)).trans (endCommand_writes _)

/-- The echo, one status byte, and the cursors: the answer the control commands share. -/
theorem statusReply_writes (op : Byte) (v rp wp : Nat) (s : State) :
    Writes .ofReply s (endCommand { (beginCommand op s).respWrite 1 1 v with rp := rp, wp := wp }) :=
  ((((beginCommand_writes op s).trans (respWrite_writes 1 1 v _)).trans (setRequestCursor_writes rp _)).trans
    (setAnswer_writes wp _ _)).trans (endCommand_writes _)

theorem exec_control_writes {i : Instr} {s t : State} (hi : callsNoPin i = true) (h : exec i s = .next t) :
    ControlWrites i s t := by
  cases i <;> try contradiction
  case info id => cases h; exact .of_reply (infoCommand_writes _ id s)
  case hostStatus => cases h; exact .of_reply (statusReply_writes 0x01 0 3 2 s)
  case xferAbort => cases h; exact .of_reply ((beginCommand_writes 0x07 s).trans (endCommand_writes _))
  case xferCfg idle wait matched =>
    cases h
    exact ⟨⟨idle, wait, matched⟩, s.connected, statusReply_writes 0x04 0 6 2 { s with cfg := ⟨idle, wait, matched⟩ },
      fun _ => ⟨_, _, _, rfl⟩, absurd rfl⟩
  case connect port =>
    cases h
    exact ⟨s.cfg, connectResult port,
      statusReply_writes 0x02 (connectResult port).toNat 2 2 { s with connected := connectResult port },
      absurd rfl, fun _ => .inl ⟨_, rfl⟩⟩
  case disconnect =>
    cases h
    exact ⟨s.cfg, false, statusReply_writes 0x03 0 1 2 { s with connected := false }, absurd rfl, fun _ => .inr rfl⟩
  all_goals cases h; exact .of_reply (errorResponse_writes _ s)

/-- A header and an acknowledgement are the engine's: they write what an attempt writes. -/
theorem exec_engine_writes {i : Instr} {s t : State} (hi : i.wordPort ≠ .packet) (h : exec i s = .next t) :
    Writes .ofAttempt s t := by
  cases i <;> try contradiction
  case ackOk => cases h; exact (setRegisters_writes 1 _ _ _ s).trans (dataPhase_writes _ _)
  case ackWait | ackFault | ackInvalid0 | ackInvalid3 | ackInvalid5 | ackInvalid6 | ackInvalid7 =>
    cases h; exact endWithAck_writes _ s
  all_goals cases h; exact executeTransfer_writes _ _ s

theorem exec_xfer_writes {rq : Byte} {operand : Word} {s t : State} (h : exec (.xfer rq operand) s = .next t) :
    Writes .ofTransfer s t := by
  simp only [exec, execXfer] at h
  split at h <;> cases h
  · exact (errorResponse_writes _ s).transfer_of_reply
  · exact transferCommand_writes _ rq operand s

theorem exec_xferBlk_writes {rq : Byte} {count : BitVec 16} {data : List Byte} {s t : State}
    (h : exec (.xferBlk rq count data) s = .next t) : Writes .ofBlock s t := by
  simp only [exec, execXferBlk] at h
  split at h <;> cases h
  · exact (errorResponse_writes _ s).transfer_of_reply.block_of_transfer
  · exact blockCommand_writes _ rq count data s

theorem exec_swjSeq_writes {n : Byte} {data : List Byte} {s t : State} (h : exec (.swjSeq n data) s = .next t) :
    Writes .ofSequence s t := by
  simp only [exec, execSwjSeq] at h
  split at h <;> cases h
  · exact (errorResponse_writes _ s).sequence_of_reply
  · exact sequenceCommand_writes n data s

theorem wordPort_of_callsNoPin {i : Instr} (hi : callsNoPin i = true) : i.wordPort = .packet := by
  cases i <;> try contradiction
  all_goals rfl

/-- The five kinds of instruction, by where their word stands and by what they write. -/
theorem exec_kinds {i : Instr} {s t : State} (h : exec i s = .next t) :
    (callsNoPin i = true ∧ i.wordPort = .packet ∧ ControlWrites i s t) ∨
    (callsNoPin i = false ∧ i.wordPort ≠ .packet ∧ Writes .ofAttempt s t) ∨
    (∃ rq operand, i = .xfer rq operand ∧ Writes .ofTransfer s t) ∨
    (∃ rq count data, i = .xferBlk rq count data ∧ Writes .ofBlock s t) ∨
    (∃ n data, i = .swjSeq n data ∧ Writes .ofSequence s t) := by
  cases hp : callsNoPin i with
  | true => exact .inl ⟨rfl, wordPort_of_callsNoPin hp, exec_control_writes hp h⟩
  | false =>
    by_cases hw : i.wordPort = .packet
    · cases i <;> try contradiction
      case xfer rq operand => exact .inr (.inr (.inl ⟨rq, operand, rfl, exec_xfer_writes h⟩))
      case xferBlk rq count data => exact .inr (.inr (.inr (.inl ⟨rq, count, data, rfl, exec_xferBlk_writes h⟩)))
      case swjSeq n data => exact .inr (.inr (.inr (.inr ⟨n, data, rfl, exec_swjSeq_writes h⟩)))
    · exact .inr (.inl ⟨rfl, hw, exec_engine_writes hw h⟩)

/-- Settles O52: an instruction of each kind stays inside its footprint, and a field outside the footprint is as it
was. -/
theorem whoWritesWhat : Obligations.WhoWritesWhat := by
  intro i s t h
  obtain ⟨hp, hw, cfg, connected, ⟨u, rfl⟩, hcfg, hconnected⟩ | ⟨hp, hw, hengine⟩ | ⟨rq, operand, rfl, u, rfl⟩ |
    ⟨rq, count, data, rfl, u, rfl⟩ | ⟨n, data, rfl, u, rfl⟩ := exec_kinds h
  · -- a command without a pin call
    exact ⟨by constructor <;> rfl, hcfg, hconnected, by rintro (h | h) <;> exact absurd rfl h, absurd rfl, absurd rfl,
      by rintro (h | h | h | h | h | h | h) <;> exact absurd rfl h, absurd hw, fun _ => by constructor <;> rfl⟩
  · -- a header or an acknowledgement
    have hframe := hengine.engineFrame
    obtain ⟨u, rfl⟩ := hengine
    exact ⟨by constructor <;> rfl, absurd rfl, absurd rfl, by rintro (h | h) <;> exact absurd rfl h, absurd rfl,
      absurd rfl, fun _ => .inl hw, fun _ => hframe, fun h => by simp [hp] at h⟩
  · -- Transfer
    exact ⟨by constructor <;> rfl, absurd rfl, absurd rfl, by rintro (h | h) <;> exact absurd rfl h, absurd rfl,
      fun _ => .inl ⟨rq, operand, rfl⟩, fun _ => .inr (.inl ⟨rq, operand, rfl⟩), absurd rfl, nofun⟩
  · -- TransferBlock
    exact ⟨by constructor <;> rfl, absurd rfl, absurd rfl, by rintro (h | h) <;> exact absurd rfl h,
      fun _ => ⟨rq, count, data, rfl⟩, fun _ => .inr ⟨rq, count, data, rfl⟩,
      fun _ => .inr (.inr ⟨rq, count, data, rfl⟩), absurd rfl, nofun⟩
  · -- SWJ_Sequence
    exact ⟨by constructor <;> rfl, absurd rfl, absurd rfl, fun _ => ⟨n, data, rfl⟩, absurd rfl, absurd rfl,
      by rintro (h | h | h | h | h | h | h) <;> exact absurd rfl h, absurd rfl, nofun⟩

end Sys2Proof.Machine
end

section
/-! PROOF. The memory family (20_memory.md): the byte order of a request field, of a response field and of a raw
sequence. -/

namespace Sys2Proof.Machine

/-! ### The byte order of a number -/

/-- Byte `i` of a number (20_memory.md R45). -/
theorem leBytes_getElem? (n v i : Nat) (hi : i < n) :
    (leBytes n v)[i]? = some (BitVec.ofNat 8 (v / 256 ^ i)) := by
  induction n generalizing v i with
  | zero => omega
  | succ n ih =>
    cases i with
    | zero => simp [leBytes]
    | succ i => rw [leBytes, List.getElem?_cons_succ, ih _ i (by omega), Nat.div_div_eq_div_mul, Nat.pow_succ']

/-! ### Reading a field of a request -/

/-- The field of no bytes is 0. -/
theorem readField_zero (bytes : List Byte) (off : Nat) (h : off ≤ bytes.length) : readField bytes off 0 = some 0 := by
  simp [readField, h, leNat]

/-- A field that reaches past the request has no value (20_memory.md R44). -/
theorem readField_eq_none {bytes : List Byte} {off n : Nat} (h : bytes.length < off + n) :
    readField bytes off n = none :=
  if_neg (Nat.not_le_of_lt h)

/-- The byte at the lowest offset is the least significant (20_memory.md R44). -/
theorem readField_succ {bytes : List Byte} {off : Nat} {b : Byte} (hb : bytes[off]? = some b) (n : Nat) :
    readField bytes off (n + 1) = (readField bytes (off + 1) n).map (b.toNat + 256 * ·) := by
  obtain ⟨hlt, rfl⟩ := List.getElem?_eq_some_iff.1 hb
  rw [readField, readField, List.drop_eq_getElem_cons hlt, List.take_succ_cons, leNat, Nat.add_right_comm off 1 n,
    Nat.add_assoc off n 1]
  split <;> rfl

theorem readField_one {bytes : List Byte} {off : Nat} {b : Byte} (hb : bytes[off]? = some b) :
    readField bytes off 1 = some b.toNat := by
  obtain ⟨hlt, -⟩ := List.getElem?_eq_some_iff.1 hb
  rw [readField_succ hb, readField_zero _ _ hlt]
  rfl

/-- `ReqRead` on the snapshot of a packet of at most 64 bytes reads the packet's own fields (20_memory.md R41). -/
theorem reqRead_acceptPacket (bytes : List Byte) (rest : List Input) (s : State) (h : bytes.length ≤ 64)
    (off n : Nat) : (acceptPacket bytes rest s).reqRead off n = readField bytes off n := by
  rw [State.reqRead, acceptPacket_requestBytes, acceptPacket_reqLen, List.take_of_length_le h, readField]
  split <;> rfl

/-- Settles O6: a read of the snapshot is a field of the packet, and a field is taken apart byte by byte. -/
theorem requestFieldsAreLittleEndianAndBounded : Obligations.RequestFieldsAreLittleEndianAndBounded := by
  intro bytes rest s hlen
  simp only [reqRead_acceptPacket bytes rest s hlen]
  refine ⟨fun off b hb => readField_one hb, fun off b0 b1 h0 h1 => ?_, fun off b0 b1 b2 b3 h0 h1 h2 h3 => ?_,
    fun _ _ => readField_eq_none⟩
  · rw [readField_succ h0, readField_one h1]
    rfl
  · rw [readField_succ h0, readField_succ h1, readField_succ h2, readField_one h3]
    simp only [Option.map_some, Option.some.injEq]
    omega

/-! ### Writing a field of a response -/

/-- Settles O7: inside the field byte `k - off` of the value is read, and the laws of `RespWrite` give the rest. -/
theorem responseFieldsAreLittleEndian : Obligations.ResponseFieldsAreLittleEndian := by
  intro s off n v hfit
  refine ⟨fun k => ?_, respWrite_wf off n v s, respWrite_eq off n v s⟩
  rw [read_respWrite off n v k s hfit]
  split
  · next hk => exact leBytes_getElem? n v (k - off) (by omega)
  · rfl

/-! ### The bit order of a raw sequence -/

/-- Bit `k` of the raw sequence of a number's bytes is bit `k` of the number (20_memory.md R49). -/
theorem sequenceBit_leBytes (n v k : Nat) (hk : k < 8 * n) : sequenceBit (leBytes n v) k = v.testBit k := by
  have hbyte : (leBytes n v).getD (k / 8) 0 = BitVec.ofNat 8 (v / 2 ^ (8 * (k / 8))) := by
    rw [List.getD_eq_getElem?_getD, leBytes_getElem? n v _ (by omega), Option.getD_some, Nat.pow_mul]
  have hbit : k % 8 < 8 := Nat.mod_lt k (by omega)
  rw [sequenceBit, hbyte, BitVec.getLsbD_ofNat, Nat.testBit_div_two_pow, Nat.mod_add_div]
  simp [hbit]

/-- Settles O9: at each of the 32 positions both sides are that bit of the value. -/
theorem operandAndRawSequenceBitsAgree : Obligations.OperandAndRawSequenceBitsAgree := fun v =>
  List.map_congr_left fun k hk => sequenceBit_leBytes 4 v.toNat k (List.mem_range.1 hk)

end Sys2Proof.Machine
end

section
/-! PROOF. The encoding family (30_encoding.md): the round trip of decoder and encoder in both directions, the sixteen
headers, the parity bits, the acknowledgements, the reserved request bits. -/

namespace Sys2Proof

/-! ### From an instruction to its word and back -/

/-- Settles O1: an instruction with operands has its own round trip, and a word without operands is a literal that
the decoder matches. -/
theorem encodeThenDecodeGivesTheInstruction : Obligations.EncodeThenDecodeGivesTheInstruction := by
  intro i
  cases i with
  | info id => exact Laws.Encoding.info id
  | hostStatus t st => exact Laws.Encoding.hostStatus t st
  | connect port => exact Laws.Encoding.connect port
  | xferCfg idle wait matched => exact Laws.Encoding.xferCfg idle wait matched
  | xfer rq operand => exact Laws.Encoding.xfer rq operand
  | xferBlk rq count data => exact Laws.Encoding.xferBlk rq count data
  | swjSeq n data => exact Laws.Encoding.swjSeq n data
  | unknown op => exact Laws.Encoding.unknown op
  | swdHdr port direction index => exact Laws.Encoding.swdHdr port direction index
  | _ => exact fun _ => rfl

/-- Settles O3: the decoder computes on each word that is written out. -/
theorem wordsWrittenOutDecode : Obligations.WordsWrittenOutDecode :=
  ⟨rfl, rfl, rfl, rfl, rfl, rfl, rfl, rfl, rfl, rfl, rfl, rfl, rfl⟩

/-! ### From a packet to its instruction and back -/

/-- The opcode byte of a command (30_encoding.md R90). -/
def Opcode.byte : Opcode → Byte
  | .info => 0x00
  | .hostStatus => 0x01
  | .connect => 0x02
  | .disconnect => 0x03
  | .xferCfg => 0x04
  | .xfer => 0x05
  | .xferBlk => 0x06
  | .xferAbort => 0x07
  | .writeAbort => 0x08
  | .delay => 0x09
  | .resetTarget => 0x0A
  | .swjPins => 0x10
  | .swjClock => 0x11
  | .swjSeq => 0x12
  | .swdCfg => 0x13
  | .jtagSeq => 0x14
  | .jtagCfg => 0x15
  | .jtagIdcode => 0x16

theorem opcodeOf_eq_some_iff {op : Byte} {o : Opcode} : opcodeOf op = some o ↔ op = o.byte := by
  constructor
  · intro h
    unfold opcodeOf at h
    split at h <;> cases h <;> exact BitVec.eq_of_toNat_eq ‹op.toNat = _›
  · rintro rfl
    cases o <;> rfl

/-- A byte outside the opcode map is one of the 238 unassigned ones (30_encoding.md R92). -/
theorem isUnassignedOpcode_of_opcodeOf {op : Byte} (h : opcodeOf op = none) : isUnassignedOpcode op = true := by
  unfold opcodeOf at h
  split at h
  case h_19 =>
    simp only [isUnassignedOpcode, Bool.or_eq_true, Bool.and_eq_true, decide_eq_true_eq]
    simp only [imp_false] at *
    omega
  all_goals cases h

/-- What the decoder reads is an unknown opcode or a command of the map with its fields (60_exceptions.md R305). -/
theorem decodePacket_eq_ok {bytes : List Byte} {i : Instr} (h : decodePacket bytes.length bytes = .ok i) :
    ∃ op fields, bytes = op :: fields ∧ fields.length ≤ 63 ∧
      (opcodeOf op = none ∧ i = .unknown op ∨ ∃ o, op = o.byte ∧ assemble o bytes = some i) := by
  unfold decodePacket at h
  split at h
  · cases h
  · next hlen =>
    split at h
    · cases h
    · next op fields =>
      refine ⟨op, fields, rfl, ?_, ?_⟩
      · simp [Config.packetSize] at hlen
        omega
      · split at h
        · next hop => cases h; exact .inl ⟨hop, rfl⟩
        · next o hop =>
          split at h
          · cases h
          · split at h <;> cases h
            exact .inr ⟨o, opcodeOf_eq_some_iff.1 hop, ‹_›⟩

/-- The bytes of the number a byte sequence stands for are the sequence (20_memory.md R44, R45). -/
theorem leBytes_leNat (bs : List Byte) : leBytes bs.length (leNat bs) = bs := by
  induction bs with
  | nil => rfl
  | cons b bs ih =>
    have hlt := b.isLt
    have hlow : BitVec.ofNat 8 (b.toNat + 256 * leNat bs) = b := BitVec.eq_of_toNat_eq (by simp; omega)
    have hhigh : (b.toNat + 256 * leNat bs) / 256 = leNat bs := by omega
    rw [List.length_cons, leNat, leBytes, hlow, hhigh, ih]

theorem leNat_lt (bs : List Byte) : leNat bs < 256 ^ bs.length := by
  rw [← leBytes_leNat bs, Laws.leNat_leBytes, leBytes_leNat]
  exact Nat.mod_lt _ (Nat.pow_pos (by omega))

/-- A field that has a value is the bytes at its offset, least significant first (20_memory.md R44). -/
theorem readField_eq_some {bytes : List Byte} {off n x : Nat} (h : readField bytes off n = some x) :
    x < 256 ^ n ∧ ∃ rest, bytes.drop off = leBytes n x ++ rest := by
  unfold readField at h
  split at h
  · next hfit =>
    cases h
    have hn : ((bytes.drop off).take n).length = n := by simp; omega
    have hfield := leBytes_leNat ((bytes.drop off).take n)
    have hlt := leNat_lt ((bytes.drop off).take n)
    rw [hn] at hfield hlt
    exact ⟨hlt, (bytes.drop off).drop n, by rw [hfield, List.take_append_drop]⟩
  · cases h

theorem readU8_eq_some {bytes : List Byte} {off : Nat} {b : Byte} (h : readU8 bytes off = some b) :
    ∃ rest, bytes.drop off = b :: rest := by
  obtain ⟨x, hx, rfl⟩ := Option.map_eq_some_iff.1 h
  exact (readField_eq_some hx).2

theorem readU16_eq_some {bytes : List Byte} {off : Nat} {v : BitVec 16} (h : readU16 bytes off = some v) :
    ∃ rest, bytes.drop off = leBytes 2 v.toNat ++ rest := by
  obtain ⟨x, hx, rfl⟩ := Option.map_eq_some_iff.1 h
  obtain ⟨hlt, hrest⟩ := readField_eq_some hx
  rwa [BitVec.toNat_ofNat, Nat.mod_eq_of_lt (b := 2 ^ 16) hlt]

theorem readU32_eq_some {bytes : List Byte} {off : Nat} {v : Word} (h : readU32 bytes off = some v) :
    ∃ rest, bytes.drop off = leBytes 4 v.toNat ++ rest := by
  obtain ⟨x, hx, rfl⟩ := Option.map_eq_some_iff.1 h
  obtain ⟨hlt, hrest⟩ := readField_eq_some hx
  rwa [BitVec.toNat_ofNat, Nat.mod_eq_of_lt (b := 2 ^ 32) hlt]

theorem sequenceDataFits_iff (n : Byte) (l : Nat) : sequenceDataFits n l = true ↔ l ≤ swjByteCount n := by
  unfold sequenceDataFits swjByteCount swjBitCount
  split <;> simp

theorem blockDataFits_iff (rq : Byte) (count : BitVec 16) (l : Nat) :
    blockDataFits rq count l = true ↔ l ≤ blockByteCount rq count ∧ l ≤ 60 := by
  unfold blockDataFits blockByteCount rqDirection Direction.ofBit
  cases rq.getLsbD 1
  · simp
  · simp
    omega

/-- `i` is a well-formed DAP command whose encoding begins the packet. -/
def BeginsPacket (i : Instr) (bytes : List Byte) : Prop :=
  i.wf = true ∧ i.wordPort = .packet ∧ encode i <+: bytes

/-- The fields of a command are the bytes after its opcode, in the order of its packet (30_encoding.md R93). -/
theorem assemble_beginsPacket {o : Opcode} {fields : List Byte} {i : Instr} (hlen : fields.length ≤ 63)
    (h : assemble o (o.byte :: fields) = some i) : BeginsPacket i (o.byte :: fields) := by
  cases o with
  | info =>
    obtain ⟨id, h1, rfl⟩ := Option.map_eq_some_iff.1 h
    obtain ⟨rest, rfl⟩ : ∃ rest, fields = id :: rest := readU8_eq_some h1
    exact ⟨rfl, rfl, rest, rfl⟩
  | hostStatus =>
    rw [assemble] at h
    split at h <;> cases h
    next t st h1 h2 =>
    obtain ⟨rest, rfl⟩ : ∃ rest, fields = t :: rest := readU8_eq_some h1
    obtain ⟨rest, rfl⟩ : ∃ rest', rest = st :: rest' := readU8_eq_some h2
    exact ⟨rfl, rfl, rest, rfl⟩
  | connect =>
    obtain ⟨port, h1, rfl⟩ := Option.map_eq_some_iff.1 h
    obtain ⟨rest, rfl⟩ : ∃ rest, fields = port :: rest := readU8_eq_some h1
    exact ⟨rfl, rfl, rest, rfl⟩
  | xferCfg =>
    rw [assemble] at h
    split at h <;> cases h
    next idle wait matched h1 h2 h3 =>
    obtain ⟨rest, rfl⟩ : ∃ rest, fields = idle :: rest := readU8_eq_some h1
    obtain ⟨rest, rfl⟩ : ∃ rest', rest = leBytes 2 wait.toNat ++ rest' := readU16_eq_some h2
    obtain ⟨rest, rfl⟩ : ∃ rest', rest = leBytes 2 matched.toNat ++ rest' := readU16_eq_some h3
    exact ⟨rfl, rfl, rest, rfl⟩
  | xfer =>
    rw [assemble] at h
    split at h <;> cases h
    next rq operand h1 h2 =>
    obtain ⟨rest, rfl⟩ : ∃ rest, fields = rq :: rest := readU8_eq_some h1
    obtain ⟨rest, rfl⟩ : ∃ rest', rest = leBytes 4 operand.toNat ++ rest' := readU32_eq_some h2
    exact ⟨rfl, rfl, rest, rfl⟩
  | xferBlk =>
    rw [assemble] at h
    split at h <;> cases h
    next rq count h1 h2 =>
    obtain ⟨rest, rfl⟩ : ∃ rest, fields = rq :: rest := readU8_eq_some h1
    obtain ⟨data, rfl⟩ : ∃ data, rest = leBytes 2 count.toNat ++ data := readU16_eq_some h2
    refine ⟨(blockDataFits_iff _ _ _).2 ?_, rfl, data.drop (blockByteCount rq count), ?_⟩
    · have hdata : data.length + 3 ≤ 63 := hlen
      exact ⟨List.length_take_le _ _, (List.length_take_le' _ _).trans (Nat.le_of_add_le_add_right hdata)⟩
    · exact congrArg ([0x06, rq] ++ leBytes 2 count.toNat ++ ·) (List.take_append_drop _ data)
  | swjSeq =>
    obtain ⟨n, h1, rfl⟩ := Option.map_eq_some_iff.1 h
    obtain ⟨data, rfl⟩ : ∃ data, fields = n :: data := readU8_eq_some h1
    refine ⟨(sequenceDataFits_iff _ _).2 (List.length_take_le _ _), rfl, data.drop (swjByteCount n), ?_⟩
    exact congrArg ([0x12, n] ++ ·) (List.take_append_drop _ data)
  | _ =>
    -- a command without operands
    cases h
    exact ⟨rfl, rfl, fields, rfl⟩

/-- Settles O2: an unknown opcode begins its packet, and a command of the map has its fields from it. -/
theorem decodedPacketBeginsWithItsEncoding : Obligations.DecodedPacketBeginsWithItsEncoding := by
  intro bytes i h
  obtain ⟨op, fields, rfl, hlen, ⟨hop, rfl⟩ | ⟨o, rfl, hi⟩⟩ := decodePacket_eq_ok h
  · exact ⟨isUnassignedOpcode_of_opcodeOf hop, rfl, fields, rfl⟩
  · exact assemble_beginsPacket hlen hi

/-! ### The sixteen headers -/

@[simp] theorem Port.bit_ofBit (b : Bool) : (Port.ofBit b).bit = b := by cases b <;> rfl

@[simp] theorem Direction.bit_ofBit (b : Bool) : (Direction.ofBit b).bit = b := by cases b <;> rfl

theorem decodeHeader_headerWord (p : Port) (d : Direction) (k : BitVec 2) :
    decodeHeader (headerWord p d k) = .ok (headerInstr p d k) :=
  Laws.Encoding.swdHdr p d k rfl

/-- A byte that decodes is the header of the port, direction and index that stand in it (30_encoding.md R70). -/
theorem eq_headerWord_of_decodeHeader {w : Byte} {i : Instr} (h : decodeHeader w = .ok i) :
    w = headerWord (Port.ofBit (w.getLsbD 1)) (Direction.ofBit (w.getLsbD 2)) (w.extractLsb' 3 2) := by
  have hword : w = BitVec.ofNat 8 w.toNat := by simp
  unfold decodeHeader at h
  split at h
  case h_17 => split at h <;> cases h
  all_goals
    next hw =>
    rw [hw] at hword
    subst hword
    rfl

/-- The start, stop and park bits of a header, and its parity bit (30_encoding.md R71, R73). -/
theorem headerWord_framing (p : Port) (d : Direction) (k : BitVec 2) :
    (headerWord p d k).getLsbD 0 = true ∧ (headerWord p d k).getLsbD 6 = false ∧
    (headerWord p d k).getLsbD 7 = true ∧ (headerWord p d k).getLsbD 5 = headerParity p d k := by
  simp [headerWord]

end Sys2Proof

namespace Sys2Proof.Machine

theorem parity_four (v : BitVec 4) :
    parity v = (v.getLsbD 0 ^^ v.getLsbD 1 ^^ v.getLsbD 2 ^^ v.getLsbD 3) := by
  simp [parity, parityBelow]

/-- The low four bits of the request byte are the content bits of its header, in the same order (30_encoding.md R81):
the two sides agree bit by bit. -/
theorem headerOf_requestOf (rq : Byte) (v : Word) : headerOf (requestOf rq v) =
    0x81#8 ||| (rq &&& 0x0F#8) <<< 1 ||| (BitVec.ofBool (parity (rq.setWidth 4))).setWidth 8 <<< 5 := by
  refine BitVec.eq_of_getLsbD_eq fun i hi => ?_
  rw [headerOf, requestOf, headerWord, headerParity, rqPort, rqDirection, rqIndex, parity_four]
  interval_cases i <;> simp

/-- Settles O4: a header is decoded to its instruction, and what decodes is a header of its own bits. -/
theorem sixteenHeadersAndNoOther : Obligations.SixteenHeadersAndNoOther := by
  refine ⟨fun w => ⟨fun ⟨_, h⟩ => ⟨_, _, _, eq_headerWord_of_decodeHeader h⟩, ?_⟩, decodeHeader_headerWord,
    headerOf_requestOf⟩
  rintro ⟨p, d, k, rfl⟩
  exact ⟨_, decodeHeader_headerWord p d k⟩

/-! ### The header an attempt drives -/

theorem turnCycles_hdr (n : Nat) (s : State) : (turnCycles n s).hdr = s.hdr := by rw [turnCycles_eq]

theorem headerPhase_hdr (s : State) : (headerPhase s).hdr = s.hdr := by rw [headerPhase_eq]

theorem ackPhase_hdr (trn : Nat) (s : State) : (ackPhase trn s).hdr = s.hdr :=
  (forCnt_keeps State.hdr sampleAckBit (fun _ _ => rfl) 3 _).trans (turnCycles_hdr trn _)

theorem noDataPhase_hdr (trn : Nat) (s : State) : (noDataPhase trn s).hdr = s.hdr := turnCycles_hdr trn s

theorem readDataPhase_hdr (s : State) : (readDataPhase s).hdr = s.hdr :=
  forCnt_keeps State.hdr sampleDataBit (fun _ _ => rfl) 32 _

theorem readPhase_hdr (trn : Nat) (s : State) : (readPhase trn s).hdr = s.hdr := by
  have hparity (t : State) : (sampleParityBit t).hdr = t.hdr := rfl
  rw [readPhase, finishTransfer_hdr, idleCyclesAfterRead, turnCycles_hdr, turnCycles_hdr, hparity, readDataPhase_hdr]

theorem writePhase_hdr (trn : Nat) (s : State) : (writePhase trn s).hdr = s.hdr := by
  rw [writePhase, finishTransfer_hdr, idleCyclesAfterWrite_eq, driveParityBit, writeBit_hdr, writeDataPhase_eq]
  exact turnCycles_hdr trn s

theorem afterAck_hdr (trn : Nat) (s : State) : (afterAck trn s).hdr = s.hdr := by
  unfold afterAck dataPhase
  split
  · split
    · exact readPhase_hdr trn s
    · exact writePhase_hdr trn s
  · exact noDataPhase_hdr trn s

/-- The header latched at the entry stays to the end of the attempt (41_swd_transfer.md R132). -/
theorem executeTransfer_hdr (trn : Nat) (req : TransferRequest) (s : State) :
    (executeTransfer trn req s).hdr = headerOf req := by
  rw [executeTransfer, afterAck_hdr, ackPhase_hdr, headerPhase_hdr, latchRequest_hdr]

/-- Settles O5: the attempt's header is the one its request gives, and that one is driven whole. -/
theorem headerFramingAndParityBits : Obligations.HeaderFramingAndParityBits := by
  intro trn req s
  rw [executeTransfer_hdr]
  obtain ⟨hstart, hstop, hpark, hparity⟩ := headerWord_framing req.port req.direction req.registerIndex
  refine ⟨hstart, hstop, hpark, hparity, ?_⟩
  rw [headerPhase_eq]
  rfl

/-! ### The parity bit of a data phase -/

/-- The parity of the low `n` bits is whether an odd number of them is 1 (00_scope.md R6). -/
theorem countP_bits_add_parityBelow {w : Nat} (v : BitVec w) (n : Nat) :
    (((List.range n).map v.getLsbD).countP id + (parityBelow v n).toNat) % 2 = 0 := by
  induction n with
  | zero => rfl
  | succ n ih =>
    rw [List.range_succ, List.map_append, List.countP_append, parityBelow]
    cases hb : v.getLsbD n <;> cases hp : parityBelow v n <;> simp [hb, hp] at ih ⊢ <;> omega

/-- A flipped bit flips the parity of the bits it is among. -/
theorem parityBelow_flip {w k : Nat} (v : BitVec w) (hk : k < w) (n : Nat) :
    parityBelow (v ^^^ 1#w <<< k) n = (parityBelow v n ^^ decide (k < n)) := by
  induction n with
  | zero => rfl
  | succ n ih =>
    have hbit : (1#w <<< k).getLsbD n = decide (k = n) := (BitVec.getLsbD_twoPow k n).trans (by simp [hk])
    rw [parityBelow, parityBelow, ih, BitVec.getLsbD_xor, hbit]
    obtain h | h | h := Nat.lt_trichotomy k n
    · simp [h, h.ne, Nat.lt_succ_of_lt h]
    · simp [h]
    · simp [h.ne', Nat.not_lt.2 h.le, Nat.not_lt.2 (Nat.succ_le_of_lt h)]

/-- Settles O8: the ones of the value and its parity bit are even in number, and each of the 32 bits counts once. -/
theorem parityBitMakesTheOnesEven : Obligations.ParityBitMakesTheOnesEven := by
  refine ⟨fun v => ?_, fun v k hk => ?_⟩
  · have hones : [parity v].countP id = (parity v).toNat := by cases parity v <;> rfl
    rw [List.countP_append, hones]
    exact countP_bits_add_parityBelow v 32
  · rw [parity, parityBelow_flip v hk, decide_eq_true hk, Bool.xor_true]
    rfl

/-! ### An acknowledgement without a data phase -/

/-- Without turnaround cycles the end of an attempt makes no pin call (41_swd_transfer.md R136). -/
theorem endWithAck_eq (a : BitVec 3) (s : State) :
    endWithAck a s = { s with ack := a, res := ⟨a.setWidth 4, none⟩, fsm := .idle, cnt := 0 } := rfl

/-- Settles O24: each of the seven runs the end of an attempt with its own value. -/
theorem acknowledgementsOtherThanOkEndTheAttempt : Obligations.AcknowledgementsOtherThanOkEndTheAttempt := by
  intro i a hmem s
  simp only [List.mem_cons, Prod.mk.injEq, List.not_mem_nil, or_false] at hmem
  obtain ⟨rfl, rfl⟩ | ⟨rfl, rfl⟩ | ⟨rfl, rfl⟩ | ⟨rfl, rfl⟩ | ⟨rfl, rfl⟩ | ⟨rfl, rfl⟩ | ⟨rfl, rfl⟩ := hmem <;>
    exact congrArg Host.Outcome.next (endWithAck_eq _ s)

/-! ### The reserved request bits -/

theorem and_highNibble (rq : Byte) : rq &&& 0xF0#8 = (rq.extractLsb' 4 4).setWidth 8 <<< 4 := by
  refine BitVec.eq_of_getLsbD_eq fun i hi => ?_
  interval_cases i <;> simp

theorem rqReserved_of_highNibble {rq : Byte} (h : rq &&& 0xF0#8 ≠ 0) : rqReserved rq = true := by
  rw [rqReserved, bne_iff_ne]
  intro hzero
  exact h (by rw [and_highNibble, hzero]; rfl)

/-- Settles O33: both handlers check the reserved bits before anything else (44_dap_transfer.md R242). -/
theorem reservedRequestBitsAreRejected : Obligations.ReservedRequestBitsAreRejected := by
  intro rq s h
  have hreserved := rqReserved_of_highNibble h
  refine ⟨fun v => ?_, fun count data => ?_⟩
  · rw [exec, execXfer, if_pos hreserved]
    rfl
  · have hcheck : blockCheck rq count data = some .reservedBits := if_pos hreserved
    rw [exec, execXferBlk, hcheck]
    rfl

end Sys2Proof.Machine
end

section
/-! PROOF. The pin family (40_pin_primitive.md): what every operation does to the pins and the line, and from it that no
step takes back a pin event or moves the reset line, and that every step keeps the invariant. -/

namespace Sys2Proof.Machine

/-! ### What an operation does to the pins -/

/-- From `s` to `t` the pins are moved by the calls of a wire trace alone (40_pin_primitive.md R116): the reset line is
as it was, the history grew by a wire trace, the clock still rests high if it did (R115), and a line that was as `P` says
is as `Q` says. -/
structure Wired (P Q : State → Prop) (s t : State) : Prop where
  rst : t.rst = s.rst
  wire : ∃ ws, t.trace = afterWire ws s.trace
  clock : ClockInv s → ClockInv t
  line : P s → Q t

/-- Between operations: the engine is idle, and `DIR` is the direction that a disciplined history leaves. -/
def AtRest (s : State) : Prop := s.fsm = .idle ∧ LineAgrees s

/-- The part of the invariant that speaks of the engine. -/
def EngineInv (s : State) : Prop := LineInv s ∧ PhaseInv s

theorem AtRest.agrees {s : State} (h : AtRest s) : LineAgrees s := h.2

theorem LineInv.agrees {s : State} (h : LineInv s) : LineAgrees s := ⟨h.1, h.2.2⟩

/-- The invariant of the line in a phase that has a direction (41_swd_transfer.md R150). -/
theorem LineInv.lineIs {s : State} {d : LineDir} (h : LineInv s) (hd : phaseDirection s.fsm = some d) : LineIs d s :=
  ⟨h.1, h.2.1 d hd, h.2.2 d (h.2.1 d hd)⟩

theorem LineIs.lineInv {s : State} {d : LineDir} (h : LineIs d s) (hd : ∀ e, phaseDirection s.fsm = some e → e = d) :
    LineInv s :=
  ⟨h.1, fun e he => hd e he ▸ h.2.1, h.agrees.2⟩

/-- The invariant of the line in a phase that has either direction. -/
theorem LineAgrees.lineInv {s : State} (h : LineAgrees s) (hd : phaseDirection s.fsm = none) : LineInv s :=
  ⟨h.1, fun e he => by simp [hd] at he, h.2⟩

theorem AtRest.engineInv {s : State} (h : AtRest s) : EngineInv s :=
  ⟨h.2.lineInv (by rw [h.1]; rfl), .inl h.1⟩

/-- With the engine idle the invariant of the line is that the history is disciplined and `DIR` what it leaves. -/
theorem LineInv.atRest {s : State} (hf : s.fsm = .idle) (h : LineInv s) : AtRest s := ⟨hf, h.agrees⟩

namespace Wired

theorem refl (P : State → Prop) (s : State) : Wired P P s s := ⟨rfl, ⟨[], rfl⟩, id, id⟩

theorem trans {P Q R : State → Prop} {s t u : State} (h : Wired P Q s t) (h' : Wired Q R t u) : Wired P R s u where
  rst := h'.rst.trans h.rst
  wire := by
    obtain ⟨a, ha⟩ := h.wire
    obtain ⟨b, hb⟩ := h'.wire
    exact ⟨a ++ b, by rw [hb, ha, afterWire_append]⟩
  clock := h'.clock ∘ h.clock
  line := h'.line ∘ h.line

/-- The condition on the line before an operation may be a stronger one. -/
theorem pre {P P' Q : State → Prop} {s t : State} (h : Wired P Q s t) (hP : P' s → P s) : Wired P' Q s t :=
  ⟨h.rst, h.wire, h.clock, h.line ∘ hP⟩

/-- The condition on the line after an operation may be a weaker one. -/
theorem post {P Q Q' : State → Prop} {s t : State} (h : Wired P Q s t) (hQ : Q t → Q' t) : Wired P Q' s t :=
  ⟨h.rst, h.wire, h.clock, hQ ∘ h.line⟩

/-- An update of other registers makes no pin call. -/
theorem of_registers {P Q : State → Prop} {s t : State} (hrst : t.rst = s.rst) (htrace : t.trace = s.trace)
    (hclk : t.clk = s.clk) (hline : P s → Q t) : Wired P Q s t :=
  ⟨hrst, ⟨[], htrace⟩, fun h => by rwa [ClockInv, htrace, hclk], hline⟩

/-- An operation after an update of other registers. -/
theorem after_registers {P Q R : State → Prop} {s t u : State} (h : Wired Q R t u) (hrst : t.rst = s.rst)
    (htrace : t.trace = s.trace) (hclk : t.clk = s.clk) (hline : P s → Q t) : Wired P R s u :=
  (of_registers hrst htrace hclk hline).trans h

theorem forCnt {P : State → Prop} (op : Nat → State → State) (h : ∀ k s, Wired P P s (op k s)) (n : Nat) (s : State) :
    Wired P P s (forCnt op n s) :=
  forCnt_rel (Wired P P s) op (fun k t ht => ht.trans (h k t)) n s (.refl P s)

end Wired

/-! ### The one-cycle primitives and the direction switch -/

/-- A pin call that is no clock call leaves the clock at its rest. -/
theorem ClockInv.of_call {s t : State} {e : PinEvent} (htrace : t.trace = e :: s.trace) (hclk : t.clk = s.clk)
    (he : ∀ l, PinEvent.setClock l ≠ e) (h : ClockInv s) : ClockInv t := by
  rintro ⟨l, hl⟩
  rw [htrace, List.mem_cons] at hl
  rw [hclk]
  exact h ⟨l, hl.resolve_left (he l)⟩

theorem setDirection_wired (d : LineDir) (s : State) : Wired LineAgrees (LineIs d) s (setDirection d s) where
  rst := rfl
  wire := by
    cases d
    · exact ⟨[.rel], rfl⟩
    · exact ⟨[.out], rfl⟩
  clock := .of_call rfl rfl (fun _ => nofun)
  line h := setDirection_lineIs d s h.1

theorem setData_low_wired (s : State) : Wired (LineIs .output) (LineIs .output) s (setData false s) where
  rst := rfl
  wire := ⟨[.low], rfl⟩
  clock := .of_call rfl rfl (fun _ => nofun)
  line := setData_lineIs false s

theorem writeBit_wired (b : Bool) (s : State) : Wired (LineIs .output) (LineIs .output) s (writeBit b s) :=
  ⟨rfl, ⟨[.w b], rfl⟩, fun _ _ => rfl, writeBit_lineIs b s⟩

theorem readBit_wired (s : State) : Wired (LineIs .input) (LineIs .input) s (readBit s) :=
  ⟨rfl, ⟨[.r (sampledBit s)], rfl⟩, fun _ _ => rfl, readBit_lineIs s⟩

/-- A cycle without a bit keeps what it finds of the line. -/
theorem turnCycle_wired {P : State → Prop} (s : State) (hP : P s → P (turnCycle s)) : Wired P P s (turnCycle s) :=
  ⟨rfl, ⟨[.z], rfl⟩, fun _ _ => rfl, hP⟩

theorem turnCycles_wired (d : LineDir) (n : Nat) (s : State) : Wired (LineIs d) (LineIs d) s (turnCycles n s) :=
  .forCnt _ (fun _ s => turnCycle_wired s (turnCycle_lineIs d s)) n s

/-! ### The cycles of the phases -/

theorem sampleAckBit_wired (k : Nat) (s : State) : Wired (LineIs .input) (LineIs .input) s (sampleAckBit k s) :=
  (readBit_wired s).trans (.of_registers rfl rfl rfl id)

theorem sampleDataBit_wired (k : Nat) (s : State) : Wired (LineIs .input) (LineIs .input) s (sampleDataBit k s) :=
  (readBit_wired s).trans (.of_registers rfl rfl rfl id)

theorem sampleParityBit_wired (s : State) : Wired (LineIs .input) (LineIs .input) s (sampleParityBit s) :=
  (readBit_wired s).trans (.of_registers rfl rfl rfl id)

theorem driveDataBit_wired (k : Nat) (s : State) : Wired (LineIs .output) (LineIs .output) s (driveDataBit k s) :=
  (writeBit_wired _ s).trans (.of_registers rfl rfl rfl id)

/-! ### An attempt and a raw sequence -/

theorem latchRequest_wired (req : TransferRequest) (s : State) : Wired LineAgrees LineAgrees s (latchRequest req s) :=
  .of_registers rfl rfl rfl id

theorem latchSequence_wired (n : BitVec 32) (bits : List Byte) (s : State) :
    Wired LineAgrees LineAgrees s (latchSequence n bits s) :=
  .of_registers rfl rfl rfl id

/-- The end of an attempt leaves the engine idle and the line as it is (10_state.md R23). -/
theorem finishTransfer_wired (r : TransferResult) (s : State) : Wired LineAgrees AtRest s (finishTransfer r s) :=
  .of_registers rfl rfl rfl fun h => ⟨rfl, h⟩

theorem finishSequence_wired (s : State) : Wired LineAgrees AtRest s (finishSequence s) :=
  .of_registers rfl rfl rfl fun h => ⟨rfl, h⟩

theorem headerPhase_wired (s : State) : Wired LineAgrees (LineIs .output) s (headerPhase s) :=
  (setDirection_wired .output s).trans (.forCnt driveHeaderBit (fun _ s => writeBit_wired _ s) 8 _)

theorem ackPhase_wired (trn : Nat) (s : State) : Wired LineAgrees (LineIs .input) s (ackPhase trn s) :=
  ((setDirection_wired .input s).trans (turnCycles_wired .input trn _)).trans
    (.forCnt sampleAckBit sampleAckBit_wired 3 _)

theorem noDataPhase_wired (trn : Nat) (s : State) : Wired (LineIs .input) AtRest s (noDataPhase trn s) :=
  (turnCycles_wired .input trn s).trans ((finishTransfer_wired _ _).pre LineIs.agrees)

theorem readDataPhase_wired (s : State) : Wired (LineIs .input) (LineIs .input) s (readDataPhase s) :=
  (Wired.forCnt sampleDataBit sampleDataBit_wired 32 { s with par := false }).after_registers rfl rfl rfl id

theorem readPhase_wired (trn : Nat) (s : State) : Wired (LineIs .input) AtRest s (readPhase trn s) :=
  ((((readDataPhase_wired s).trans (sampleParityBit_wired _)).trans (turnCycles_wired .input trn _)).trans
    (turnCycles_wired .input _ _)).trans ((finishTransfer_wired _ _).pre LineIs.agrees)

theorem writeDataPhase_wired (s : State) : Wired (LineIs .output) (LineIs .output) s (writeDataPhase s) :=
  (Wired.forCnt driveDataBit driveDataBit_wired 32 { s with shift := s.req.value, par := false }).after_registers
    rfl rfl rfl id

theorem idleCyclesAfterWrite_wired (s : State) :
    Wired (LineIs .output) (LineIs .output) s (idleCyclesAfterWrite s) := by
  unfold idleCyclesAfterWrite
  split
  · exact .refl _ s
  · exact (setData_low_wired s).trans (turnCycles_wired .output _ _)

theorem writePhase_wired (trn : Nat) (s : State) : Wired (LineIs .input) AtRest s (writePhase trn s) :=
  (((((turnCycles_wired .input trn s).trans ((setDirection_wired .output _).pre LineIs.agrees)).trans
    (writeDataPhase_wired _)).trans (writeBit_wired _ _)).trans (idleCyclesAfterWrite_wired _)).trans
    ((finishTransfer_wired _ _).pre LineIs.agrees)

theorem dataPhase_wired (trn : Nat) (s : State) : Wired (LineIs .input) AtRest s (dataPhase trn s) := by
  unfold dataPhase
  split
  · exact readPhase_wired trn s
  · exact writePhase_wired trn s

theorem afterAck_wired (trn : Nat) (s : State) : Wired (LineIs .input) AtRest s (afterAck trn s) := by
  unfold afterAck
  split
  · exact dataPhase_wired trn s
  · exact noDataPhase_wired trn s

theorem executeTransfer_wired (trn : Nat) (req : TransferRequest) (s : State) :
    Wired LineAgrees AtRest s (executeTransfer trn req s) :=
  (((latchRequest_wired req s).trans (headerPhase_wired _)).trans ((ackPhase_wired trn _).pre LineIs.agrees)).trans
    (afterAck_wired trn _)

theorem generateSequence_wired (n : BitVec 32) (bits : List Byte) (s : State) :
    Wired LineAgrees AtRest s (generateSequence n bits s) :=
  (((latchSequence_wired n bits s).trans (setDirection_wired .output _)).trans
    (.forCnt driveSequenceBit (fun _ s => writeBit_wired _ s) _ _)).trans
    ((finishSequence_wired _).pre LineIs.agrees)

/-! ### The transfer commands -/

/-- A handler's answer makes no pin call. -/
theorem Writes.wired_of_reply {s t : State} (h : Writes .ofReply s t) : Wired AtRest AtRest s t := by
  obtain ⟨u, rfl⟩ := h
  exact .of_registers rfl rfl rfl id

theorem attempt_wired (trn : Nat) (req : TransferRequest) (s : State) : Wired LineAgrees AtRest s (attempt trn req s) :=
  (executeTransfer_wired trn req s).trans (.of_registers rfl rfl rfl id)

theorem retryLoop_wired (trn : Nat) (req : TransferRequest) (more : Nat) (s : State) :
    Wired LineAgrees AtRest s (retryLoop trn req more s) := by
  induction more generalizing s with
  | zero => exact attempt_wired trn req s
  | succ more ih =>
    rw [retryLoop_succ]
    split
    · exact (attempt_wired trn req s).trans ((ih _).pre AtRest.agrees)
    · exact attempt_wired trn req s

theorem transferWithRetry_wired (trn : Nat) (req : TransferRequest) (s : State) :
    Wired AtRest AtRest s (transferWithRetry trn req s) :=
  (retryLoop_wired trn req _ { s with retryCount := 0 }).after_registers rfl rfl rfl AtRest.agrees

theorem transferCommand_wired (trn : Nat) (rq : Byte) (operand : Word) (s : State) :
    Wired AtRest AtRest s (transferCommand trn rq operand s) := by
  have hbegin := (beginCommand_writes 0x05 s).trans (setRequestCursor_writes 6 _)
  have hend (s : State) := (transferResponse_writes (rqDirection rq) s).trans (endCommand_writes _)
  exact (hbegin.wired_of_reply.trans (transferWithRetry_wired trn (requestOf rq operand) _)).trans
    (hend _).wired_of_reply

theorem loadBlockWord_wired (req : TransferRequest) (data : List Byte) (s : State) :
    Wired AtRest AtRest s (loadBlockWord req data s) := by
  unfold loadBlockWord
  split <;> exact .of_registers rfl rfl rfl id

theorem storeBlockWord_wired (d : Direction) (s : State) : Wired AtRest AtRest s (storeBlockWord d s) := by
  unfold storeBlockWord
  dsimp only
  split
  · exact (respWrite_writes _ _ _ s).wired_of_reply.trans (.of_registers rfl rfl rfl id)
  · exact .of_registers rfl rfl rfl id

/-- A sub-transfer is loaded and run before the loop looks at its acknowledgement (44_dap_transfer.md R252). -/
theorem subTransfer_wired (trn : Nat) (req : TransferRequest) (data : List Byte) (s : State) :
    Wired AtRest AtRest s (transferWithRetry trn (loadBlockWord req data s).req (loadBlockWord req data s)) :=
  (loadBlockWord_wired req data s).trans (transferWithRetry_wired trn _ _)

theorem blockLoop_wired (trn : Nat) (req : TransferRequest) (data : List Byte) (more : Nat) (ack : BitVec 4)
    (s : State) : Wired AtRest AtRest s (blockLoop trn req data more ack s).2 := by
  induction more generalizing ack s with
  | zero => exact .refl _ s
  | succ more ih =>
    rw [blockLoop]
    split
    · exact ((subTransfer_wired trn req data s).trans (storeBlockWord_wired _ _)).trans (ih _ _)
    · exact subTransfer_wired trn req data s

theorem blockCommand_wired (trn : Nat) (rq : Byte) (count : BitVec 16) (data : List Byte) (s : State) :
    Wired AtRest AtRest s (blockCommand trn rq count data s) := by
  have hbegin : Wired AtRest AtRest s
      { beginCommand 0x06 s with rp := 4, doneCount := 0, req := requestOf rq s.req.value } :=
    .of_registers rfl rfl rfl id
  have hend (ack : BitVec 4) (s : State) :=
    (blockResponse_writes (rqDirection rq) count.toNat ack s).trans (endCommand_writes _)
  exact (hbegin.trans (blockLoop_wired trn _ data _ 0 _)).trans (hend _ _).wired_of_reply

theorem sequenceCommand_wired (n : Byte) (data : List Byte) (s : State) :
    Wired AtRest AtRest s (sequenceCommand n data s) := by
  have hbegin := (beginCommand_writes 0x12 s).trans (setRequestCursor_writes (2 + swjByteCount n) _)
  have hend (s : State) : Writes .ofReply s (endCommand { s.respWrite 1 1 0x00 with wp := 2 }) :=
    ((respWrite_writes 1 1 0x00 s).trans (setAnswer_writes 2 _ _)).trans (endCommand_writes _)
  exact (hbegin.wired_of_reply.trans ((generateSequence_wired _ data _).pre AtRest.agrees)).trans
    (hend _).wired_of_reply

/-! ### A command, a header, an acknowledgement -/

theorem exec_xfer_cases {rq : Byte} {operand : Word} {s t : State} (h : exec (.xfer rq operand) s = .next t) :
    t = errorResponse .reservedBits s ∨ t = transferCommand Config.trnCycles rq operand s := by
  simp only [exec, execXfer] at h
  split at h <;> cases h
  · exact .inl rfl
  · exact .inr rfl

theorem exec_xferBlk_cases {rq : Byte} {count : BitVec 16} {data : List Byte} {s t : State}
    (h : exec (.xferBlk rq count data) s = .next t) :
    (∃ c, t = errorResponse c s) ∨
      blockCheck rq count data = none ∧ t = blockCommand Config.trnCycles rq count data s := by
  simp only [exec, execXferBlk] at h
  split at h <;> cases h
  · exact .inl ⟨_, rfl⟩
  · exact .inr ⟨‹_›, rfl⟩

theorem exec_swjSeq_cases {n : Byte} {data : List Byte} {s t : State} (h : exec (.swjSeq n data) s = .next t) :
    t = errorResponse .truncated s ∨ t = sequenceCommand n data s := by
  simp only [exec, execSwjSeq] at h
  split at h <;> cases h
  · exact .inl rfl
  · exact .inr rfl

theorem ControlWrites.wired {i : Instr} {s t : State} (h : ControlWrites i s t) : Wired AtRest AtRest s t := by
  obtain ⟨cfg, connected, hreply, -, -⟩ := h
  exact hreply.wired_of_reply.after_registers rfl rfl rfl id

/-- A command from an idle engine leaves it idle and the line disciplined, whatever the target answers. -/
theorem exec_packet_wired {i : Instr} {s t : State} (hi : i.wordPort = .packet) (h : exec i s = .next t) :
    Wired AtRest AtRest s t := by
  have hreject (c : ErrorCause) : Wired AtRest AtRest s (errorResponse c s) := (errorResponse_writes c s).wired_of_reply
  obtain ⟨-, -, hcontrol⟩ | ⟨-, hw, -⟩ | ⟨rq, operand, rfl, -⟩ | ⟨rq, count, data, rfl, -⟩ | ⟨n, data, rfl, -⟩ :=
    exec_kinds h
  · exact hcontrol.wired
  · exact absurd hi hw
  · obtain rfl | rfl := exec_xfer_cases h
    · exact hreject _
    · exact transferCommand_wired _ rq operand s
  · obtain ⟨c, rfl⟩ | ⟨-, rfl⟩ := exec_xferBlk_cases h
    · exact hreject c
    · exact blockCommand_wired _ rq count data s
  · obtain rfl | rfl := exec_swjSeq_cases h
    · exact hreject _
    · exact sequenceCommand_wired n data s

/-- A header runs one attempt, with the value that `REQ` holds (41_swd_transfer.md R152). -/
theorem exec_header_eq {i : Instr} (hi : i.wordPort = .header) (s : State) :
    ∃ req, exec i s = .next (executeTransfer Config.trnCycles req s) := by
  cases i <;> try contradiction
  all_goals exact ⟨_, rfl⟩

/-- An acknowledgement goes on where the third sampled bit ends (41_swd_transfer.md R136, R137, R139). -/
theorem exec_decodeAck (s : State) : exec (decodeAck s.ack) s = .next (afterAck Config.trnCycles s) := by
  have h (a : BitVec 3) : exec (decodeAck a) s = .next (afterAck Config.trnCycles { s with ack := a }) := by
    have ha : a = 0 ∨ a = 1 ∨ a = 2 ∨ a = 3 ∨ a = 4 ∨ a = 5 ∨ a = 6 ∨ a = 7 := by decide +revert
    obtain rfl | rfl | rfl | rfl | rfl | rfl | rfl | rfl := ha <;> rfl
  exact h s.ack

/-! ### The state machine, one clock cycle a step -/

/-- A clock cycle of a phase leaves the phase, its counter and the operands of its length as they are. -/
theorem phaseCycle_registers (s : State) :
    (phaseCycle s).fsm = s.fsm ∧ (phaseCycle s).cnt = s.cnt ∧ (phaseCycle s).seqCount = s.seqCount ∧
      (phaseCycle s).seqBits = s.seqBits := by
  unfold phaseCycle
  split <;> exact ⟨rfl, rfl, rfl, rfl⟩

theorem phaseCycle_frame (s : State) : EngineFrame s (phaseCycle s) := by
  unfold phaseCycle
  cases s.fsm with
  | idle => exact .refl s
  | hdr => exact driveHeaderBit_frame _ s
  | trn1 | trn2 | idlec => exact turnCycle_frame s
  | ackp => exact sampleAckBit_frame _ s
  | rdata => exact sampleDataBit_frame _ s
  | rpar => exact sampleParityBit_frame s
  | wdata => exact driveDataBit_frame _ s
  | wpar => exact driveParityBit_frame s
  | seq => exact driveSequenceBit_frame _ s

/-- In a phase with a direction an operation that keeps the line in that direction keeps the line's invariant. -/
theorem Wired.in_phase {d : LineDir} {s t : State} (h : Wired (LineIs d) (LineIs d) s t)
    (hd : phaseDirection s.fsm = some d) (hfsm : t.fsm = s.fsm) : Wired LineInv LineInv s t :=
  (h.pre fun hs => hs.lineIs hd).post fun ht => ht.lineInv fun e he => by
    rw [hfsm, hd] at he
    exact (Option.some.inj he).symm

/-- A clock cycle of a phase finds the line in the phase's direction and leaves it so (40_pin_primitive.md R119). -/
theorem phaseCycle_wired (s : State) : Wired LineInv LineInv s (phaseCycle s) := by
  unfold phaseCycle
  cases hf : s.fsm with
  | idle => exact .refl _ s
  | hdr => exact (writeBit_wired _ s).in_phase (congrArg phaseDirection hf) rfl
  | trn1 => exact (turnCycle_wired s (turnCycle_lineIs .input s)).in_phase (congrArg phaseDirection hf) rfl
  | ackp => exact (sampleAckBit_wired _ s).in_phase (congrArg phaseDirection hf) rfl
  | trn2 => exact (turnCycle_wired s (turnCycle_lineIs .input s)).in_phase (congrArg phaseDirection hf) rfl
  | rdata => exact (sampleDataBit_wired _ s).in_phase (congrArg phaseDirection hf) rfl
  | rpar => exact (sampleParityBit_wired s).in_phase (congrArg phaseDirection hf) rfl
  | wdata => exact (driveDataBit_wired _ s).in_phase (congrArg phaseDirection hf) rfl
  | wpar => exact (writeBit_wired _ s).in_phase (congrArg phaseDirection hf) rfl
  | idlec =>
    exact ((turnCycle_wired s (turnCycle_lineAgrees s)).pre LineInv.agrees).post fun h =>
      h.lineInv (congrArg phaseDirection hf)
  | seq => exact (writeBit_wired _ s).in_phase (congrArg phaseDirection hf) rfl

/-- The entry of a phase that turns the line. -/
theorem turnedPhase_wired (f : Fsm) (d : LineDir) (s : State) :
    Wired LineAgrees (LineIs d) s (setDirection d (enterPhase f s)) :=
  (setDirection_wired d (enterPhase f s)).after_registers rfl rfl rfl id

/-- What the exit of a phase can do (41_swd_transfer.md R150): end the operation; enter a phase that asks nothing more
of the line; turn the line and enter a phase that has its new direction; or enter the idle cycles of a write, with the
line set low. A phase is entered with cycles to make, and none is `SEQ`. -/
inductive Exit (trn : Nat) (s : State) : State → Prop
  | finish (res : TransferResult) : Exit trn s (finishTransfer res s)
  | enter (f : Fsm) (par : Bool) (hline : ∀ d, phaseDirection f = some d → phaseDirection s.fsm = some d)
      (hcycles : 0 < phaseLength trn (enterPhase f s)) (hseq : f ≠ .seq) : Exit trn s { enterPhase f s with par := par }
  | turn (f : Fsm) (d : LineDir) (shift : Word) (par : Bool) (hline : phaseDirection f = some d)
      (hcycles : 0 < phaseLength trn (enterPhase f s)) (hseq : f ≠ .seq) :
      Exit trn s { setDirection d (enterPhase f s) with shift := shift, par := par }
  | low (hdir : s.dir = .output) (hline : phaseDirection s.fsm ≠ none)
      (hcycles : 0 < phaseLength trn (enterPhase .idlec s)) : Exit trn s (setData false (enterPhase .idlec s))

theorem exitIdle_exit (trn : Nat) (s : State) : Exit trn s (exitIdle s) := by
  unfold exitIdle
  split
  · exact .finish _
  · exact .finish _

/-- The exit of a phase of no cycles, which is entered and left at once, is an exit of the phase before it. -/
theorem Exit.of_enterPhase {trn : Nat} {f : Fsm} {s t : State} (hf : phaseDirection f = phaseDirection s.fsm)
    (h : Exit trn (enterPhase f s) t) : Exit trn s t := by
  cases h with
  | finish res => exact .finish res
  | enter f' par hline hcycles hseq => exact .enter f' par (fun d hd => hf ▸ hline d hd) hcycles hseq
  | turn f' d shift par hline hcycles hseq => exact .turn f' d shift par hline hcycles hseq
  | low hdir hline hcycles => exact .low hdir (hf ▸ hline) hcycles

theorem enterIdle_exit (trn : Nat) {s : State} (hline : phaseDirection s.fsm ≠ none) : Exit trn s (enterIdle s) := by
  unfold enterIdle
  split
  · exact exitIdle_exit trn s
  · next hne =>
    have hcycles : 0 < s.cfg.idleCycles.toNat := Nat.pos_of_ne_zero fun h => hne (BitVec.eq_of_toNat_eq h)
    split
    · exact .low ‹_› hline hcycles
    · exact .enter .idlec s.par nofun hcycles nofun

theorem exitTurn2_exit (trn : Nat) {s : State} (hline : phaseDirection s.fsm = some .input) :
    Exit trn s (exitTurn2 s) := by
  unfold exitTurn2
  split
  · exact .finish _
  · split
    · exact .turn .wdata .output s.req.value false rfl (Nat.zero_lt_succ 31) nofun
    · exact enterIdle_exit trn (by simp [hline])

theorem enterTurn2_exit (trn : Nat) {s : State} (hline : phaseDirection s.fsm = some .input) :
    Exit trn s (enterTurn2 trn s) := by
  unfold enterTurn2
  split
  · exact .of_enterPhase (f := .trn2) hline.symm (exitTurn2_exit trn rfl)
  · exact .enter .trn2 s.par (fun d hd => hline.trans hd) (Nat.pos_of_ne_zero ‹_›) nofun

theorem exitAck_exit (trn : Nat) {s : State} (hline : phaseDirection s.fsm = some .input) :
    Exit trn s (exitAck trn s) := by
  unfold exitAck
  split
  · exact .enter .rdata false (fun d hd => hline.trans hd) (Nat.zero_lt_succ 31) nofun
  · exact enterTurn2_exit trn hline

theorem enterTurn1_exit (trn : Nat) (s : State) : Exit trn s (enterTurn1 trn s) := by
  unfold enterTurn1
  split
  · exact .turn .ackp .input s.shift s.par rfl (Nat.zero_lt_succ 2) nofun
  · exact .turn .trn1 .input s.shift s.par rfl (Nat.pos_of_ne_zero ‹_›) nofun

theorem phaseExit_exit (trn : Nat) {s : State} (hphase : s.fsm ≠ .idle) : Exit trn s (phaseExit trn s) := by
  unfold phaseExit
  cases hf : s.fsm with
  | idle => exact absurd hf hphase
  | hdr => exact enterTurn1_exit trn s
  | trn1 => exact .enter .ackp s.par (fun _ hd => (congrArg phaseDirection hf).trans hd) (Nat.zero_lt_succ 2) nofun
  | ackp => exact exitAck_exit trn (congrArg phaseDirection hf)
  | trn2 => exact exitTurn2_exit trn (congrArg phaseDirection hf)
  | rdata => exact .enter .rpar s.par (fun _ hd => (congrArg phaseDirection hf).trans hd) Nat.zero_lt_one nofun
  | rpar => exact enterTurn2_exit trn (congrArg phaseDirection hf)
  | wdata => exact .enter .wpar s.par (fun _ hd => (congrArg phaseDirection hf).trans hd) Nat.zero_lt_one nofun
  | wpar => exact enterIdle_exit trn (by rw [hf]; nofun)
  | idlec => exact exitIdle_exit trn s
  | seq => exact .finish s.res

theorem Exit.frame {trn : Nat} {s t : State} (h : Exit trn s t) : EngineFrame s t := by
  cases h with
  | finish res => exact finishTransfer_frame res s
  | enter | turn | low => constructor <;> rfl

/-- An exit leaves an idle engine, or one with cycles to make that is in no raw sequence. -/
theorem Exit.phaseInv {s t : State} (h : Exit Config.trnCycles s t) : PhaseInv t := by
  cases h with
  | finish res => exact .inl rfl
  | enter f par hline hcycles hseq => exact .inr ⟨.inl hcycles, fun h => absurd h hseq⟩
  | turn f d shift par hline hcycles hseq => exact .inr ⟨.inl hcycles, fun h => absurd h hseq⟩
  | low hdir hline hcycles => exact .inr ⟨.inl hcycles, nofun⟩

/-- An exit leaves the line as the phase it enters needs it. -/
theorem Exit.wired {trn : Nat} {s t : State} (h : Exit trn s t) : Wired LineInv LineInv s t := by
  cases h with
  | finish res => exact ((finishTransfer_wired res s).pre LineInv.agrees).post fun h => h.engineInv.1
  | enter f par hline hcycles hseq =>
    exact .of_registers rfl rfl rfl fun hs => ⟨hs.1, fun d hd => hs.2.1 d (hline d hd), hs.2.2⟩
  | turn f d shift par hline hcycles hseq =>
    refine ((turnedPhase_wired f d s).pre LineInv.agrees).trans (.of_registers rfl rfl rfl fun hd => ?_)
    exact hd.lineInv fun e he => Option.some.inj (he.symm.trans hline)
  | low hdir hline hcycles =>
    obtain ⟨d, hd⟩ := Option.ne_none_iff_exists'.1 hline
    have henter : Wired LineInv (LineIs .output) s (enterPhase .idlec s) := .of_registers rfl rfl rfl fun hs => by
      obtain ⟨hdisciplined, hlast, hd⟩ := hs.lineIs hd
      rw [← hd, hdir] at hlast
      exact ⟨hdisciplined, hlast, hdir⟩
    exact (henter.trans (setData_low_wired _)).post fun h => h.lineInv nofun

/-- One clock cycle in a phase: the cycle, and the exit when it was the phase's last (41_swd_transfer.md R150). -/
theorem clock_cases (trn : Nat) (s : State) :
    (s.cnt + 1 = phaseLength trn s ∧ clock trn s = phaseExit trn (countCycle (phaseCycle s))) ∨
      (s.cnt + 1 ≠ phaseLength trn s ∧ clock trn s = countCycle (phaseCycle s)) := by
  obtain ⟨hfsm, hcnt, hcount, -⟩ := phaseCycle_registers s
  have hlength : phaseLength trn (countCycle (phaseCycle s)) = phaseLength trn s := by
    simp only [phaseLength, countCycle_fsm, countCycle_cfg, countCycle_seqCount, hfsm, hcount,
      (phaseCycle_frame s).cfg]
  unfold clock
  simp only [hlength, countCycle_cnt, hcnt]
  split
  · exact .inl ⟨‹_›, rfl⟩
  · exact .inr ⟨‹_›, rfl⟩

theorem clock_frame {trn : Nat} {s : State} (hf : s.fsm ≠ .idle) : EngineFrame s (clock trn s) := by
  have hcycle := (phaseCycle_frame s).trans (countCycle_frame _)
  obtain ⟨-, h⟩ | ⟨-, h⟩ := clock_cases trn s <;> rw [h]
  · exact hcycle.trans (phaseExit_exit trn (by rwa [countCycle_fsm, (phaseCycle_registers s).1])).frame
  · exact hcycle

theorem clock_wired {s : State} (hf : s.fsm ≠ .idle) (hlt : s.cnt < phaseLength Config.trnCycles s) :
    Wired EngineInv EngineInv s (clock Config.trnCycles s) := by
  obtain ⟨hfsm, hcnt, hcount, hbits⟩ := phaseCycle_registers s
  have hcycle : Wired LineInv LineInv s (countCycle (phaseCycle s)) :=
    (phaseCycle_wired s).trans (.of_registers rfl rfl rfl id)
  obtain ⟨-, h⟩ | ⟨hne, h⟩ := clock_cases Config.trnCycles s <;> rw [h]
  · have hexit := phaseExit_exit Config.trnCycles (s := countCycle (phaseCycle s)) (by rwa [countCycle_fsm, hfsm])
    exact ((hcycle.trans hexit.wired).pre And.left).post fun hline => ⟨hline, hexit.phaseInv⟩
  · refine ⟨hcycle.rst, hcycle.wire, hcycle.clock, fun ⟨hline, hphase⟩ => ⟨hcycle.line hline, .inr ⟨.inl ?_, ?_⟩⟩⟩
    · simp only [phaseLength, countCycle_fsm, countCycle_cfg, countCycle_seqCount, countCycle_cnt, hfsm, hcnt, hcount,
        (phaseCycle_frame s).cfg] at hlt hne ⊢
      omega
    · rw [countCycle_fsm, countCycle_seqCount, countCycle_seqBits, hfsm, hcount, hbits]
      exact (hphase.resolve_left hf).2

/-- A transfer run clock by clock starts at its header, with the line taken (41_swd_transfer.md R133). -/
theorem startTransfer_wired (req : TransferRequest) (s : State) :
    Wired LineAgrees EngineInv s (startTransfer req s) :=
  ((latchRequest_wired req s).trans (turnedPhase_wired .hdr .output _)).post fun hd =>
    ⟨hd.lineInv fun _ he => (Option.some.inj he).symm, .inr ⟨.inl (Nat.zero_lt_succ 7), nofun⟩⟩

/-- A raw sequence of no bit ends where it starts (41_swd_transfer.md R145). -/
theorem startSequence_cases (n : BitVec 32) (bits : List Byte) (s : State) :
    (startSequence n bits s = finishSequence (setDirection .output (latchSequence n bits s))) ∨
      n ≠ 0 ∧ startSequence n bits s = setDirection .output (enterPhase .seq (latchSequence n bits s)) := by
  unfold startSequence enterSequence
  split
  · exact .inl rfl
  · exact .inr ⟨‹_›, rfl⟩

theorem startSequence_frame (n : BitVec 32) (bits : List Byte) (s : State) :
    EngineFrame s (startSequence n bits s) := by
  obtain h | ⟨-, h⟩ := startSequence_cases n bits s <;> rw [h] <;> constructor <;> rfl

theorem startSequence_wired {n : BitVec 32} {bits : List Byte} (hfits : sequenceFits n bits = true) (s : State) :
    Wired LineAgrees EngineInv s (startSequence n bits s) := by
  have hlatch := latchSequence_wired n bits s
  obtain h | ⟨hn, h⟩ := startSequence_cases n bits s <;> rw [h]
  · exact ((hlatch.trans (setDirection_wired .output _)).trans ((finishSequence_wired _).pre LineIs.agrees)).post
      AtRest.engineInv
  · have hcycles : 0 < n.toNat := Nat.pos_of_ne_zero fun h => hn (BitVec.eq_of_toNat_eq h)
    exact (hlatch.trans (turnedPhase_wired .seq .output _)).post fun hd =>
      ⟨hd.lineInv fun _ he => (Option.some.inj he).symm, .inr ⟨.inl hcycles, fun _ => hfits⟩⟩

/-! ### What a step can do -/

theorem headerInstr_wordPort (p : Port) (d : Direction) (k : BitVec 2) : (headerInstr p d k).wordPort = .header := by
  unfold headerInstr
  split <;> rfl

theorem wordPort_of_decodeHeader {w : Byte} {i : Instr} (h : decodeHeader w = .ok i) : i.wordPort = .header := by
  rw [eq_headerWord_of_decodeHeader h, decodeHeader_headerWord] at h
  cases h
  exact headerInstr_wordPort _ _ _

/-- The dispatcher decodes the packet itself: of one that is too long it reads no byte (42_dap_dispatch.md R181). -/
theorem fetchPacket_acceptPacket (bytes : List Byte) (rest : List Input) (s : State) :
    (acceptPacket bytes rest s).fetchPacket = decodePacket bytes.length bytes := by
  rw [State.fetchPacket, acceptPacket_requestBytes, acceptPacket_reqLen]
  by_cases h : bytes.length ≤ 64
  · rw [List.take_of_length_le h]
  · have hlong : bytes.length = 0 ∨ Config.packetSize < bytes.length := .inr (Nat.lt_of_not_le h)
    unfold decodePacket
    rw [if_pos hlong, if_pos hlong]

/-- What a step that answers a next state can do: wait; run a request packet and return to the host; run one attempt;
start an attempt or a raw sequence clock by clock; go on from a complete acknowledgement; make one clock cycle. -/
inductive StepCase (s : State) : State → Prop
  | wait : StepCase s s
  | rejected (hidle : s.fsm = .idle) (bytes : List Byte) (rest : List Input) (c : ErrorCause) :
      StepCase s (returnToHost (errorResponse c (acceptPacket bytes rest s)))
  | command (hidle : s.fsm = .idle) (bytes : List Byte) (rest : List Input) (i : Instr) (u : State)
      (hi : i.wordPort = .packet) (hu : exec i (acceptPacket bytes rest s) = .next u) : StepCase s (returnToHost u)
  | attempt (hidle : s.fsm = .idle) (req : TransferRequest) (value : Word) (rest : List Input) :
      StepCase s (executeTransfer Config.trnCycles req (setRequestValue value { s with inputs := rest }))
  | startTransfer (hidle : s.fsm = .idle) (req : TransferRequest) (rest : List Input) :
      StepCase s (startTransfer req { s with inputs := rest })
  | startSequence (hidle : s.fsm = .idle) (n : BitVec 32) (bits : List Byte) (rest : List Input)
      (hfits : sequenceFits n bits = true) : StepCase s (startSequence n bits { s with inputs := rest })
  | acknowledged (hack : s.atAck = true) : StepCase s (afterAck Config.trnCycles s)
  | clocked (hphase : s.fsm ≠ .idle) (hcycles : s.cnt < phaseLength Config.trnCycles s) :
      StepCase s (clock Config.trnCycles s)

theorem processCommand_cases {bytes : List Byte} {rest : List Input} {s t : State} (hidle : s.fsm = .idle)
    (h : processCommand (acceptPacket bytes rest s) = .next t) : StepCase s t := by
  unfold processCommand at h
  rw [fetchPacket_acceptPacket] at h
  split at h
  · cases h
    exact .rejected hidle bytes rest _
  · next i hdecode =>
    obtain ⟨-, hport, -⟩ := decodedPacketBeginsWithItsEncoding bytes i hdecode
    split at h <;> cases h
    exact .command hidle bytes rest i _ hport ‹_›

theorem takeInput_cases {s t : State} (hidle : s.fsm = .idle) (h : takeInput s = .next t) : StepCase s t := by
  unfold takeInput at h
  split at h
  · -- no input
    cases h
    exact .wait
  · exact processCommand_cases hidle h
  · -- a header word
    next w value rest _ =>
    split at h
    · next i hdecode =>
      obtain ⟨req, hexec⟩ :=
        exec_header_eq (wordPort_of_decodeHeader hdecode) (setRequestValue value { s with inputs := rest })
      cases hexec.symm.trans h
      exact .attempt hidle req value rest
    · cases h
  · -- a request
    cases h
    exact .attempt hidle _ _ _
  · cases h
    exact .startTransfer hidle _ _
  · split at h <;> cases h
    exact .startSequence hidle _ _ _ ‹_›

theorem step_cases {s t : State} (h : step s = .next t) : StepCase s t := by
  unfold step at h
  split at h
  · split at h
    · cases h
    · exact takeInput_cases ‹_› h
  · split at h
    · cases (exec_decodeAck s).symm.trans h
      exact .acknowledged ‹_›
    · unfold clockStep at h
      split at h
      · split at h <;> cases h
        exact .clocked ‹_› ‹_›
      · cases h

/-- A complete acknowledgement stands in `ACKP`, where the line is released (41_swd_transfer.md R150). -/
theorem LineInv.lineIs_of_atAck {s : State} (hack : s.atAck = true) (h : LineInv s) : LineIs .input s := by
  simp only [State.atAck, Bool.and_eq_true, decide_eq_true_eq] at hack
  exact h.lineIs (by rw [hack.1]; rfl)

/-- Every step moves the pins by wire symbols alone and keeps the engine's part of the invariant. -/
theorem step_wired {s t : State} (h : step s = .next t) : Wired EngineInv EngineInv s t := by
  cases step_cases h with
  | wait => exact .refl _ s
  | rejected hidle bytes rest c =>
    exact .of_registers rfl rfl rfl fun hs => (LineInv.atRest hidle hs.1).engineInv
  | command hidle bytes rest i u hi hu =>
    have haccept : Wired EngineInv AtRest s (acceptPacket bytes rest s) :=
      .of_registers rfl rfl rfl fun hs => hs.1.atRest hidle
    exact (haccept.trans (exec_packet_wired hi hu)).trans (.of_registers rfl rfl rfl fun hu => AtRest.engineInv hu)
  | attempt hidle req value rest =>
    have hinput : Wired EngineInv LineAgrees s (setRequestValue value { s with inputs := rest }) :=
      .of_registers rfl rfl rfl fun hs => hs.1.agrees
    exact (hinput.trans (executeTransfer_wired _ req _)).post AtRest.engineInv
  | startTransfer hidle req rest =>
    have hinput : Wired EngineInv LineAgrees s { s with inputs := rest } :=
      .of_registers rfl rfl rfl fun hs => hs.1.agrees
    exact hinput.trans (startTransfer_wired req _)
  | startSequence hidle n bits rest hfits =>
    have hinput : Wired EngineInv LineAgrees s { s with inputs := rest } :=
      .of_registers rfl rfl rfl fun hs => hs.1.agrees
    exact hinput.trans (startSequence_wired hfits _)
  | acknowledged hack =>
    exact ((afterAck_wired _ s).pre fun hs => hs.1.lineIs_of_atAck hack).post AtRest.engineInv
  | clocked hphase hcycles => exact clock_wired hphase hcycles

/-! ### No step takes back a pin event -/

/-- No wire symbol stands for a `set_reset` (40_pin_primitive.md R117). -/
theorem setReset_notMem_wireEvents (l : Bool) (ws : List WireSymbol) : PinEvent.setReset l ∉ wireEvents ws := by
  intro h
  obtain ⟨x, -, hx⟩ := List.mem_flatMap.1 h
  cases x <;> simp [WireSymbol.events] at hx

/-- Settles O54: the events a step adds are those of a wire trace, and no wire symbol stands for a `set_reset`. -/
theorem everyStepOnlyAddsPinEvents : Obligations.EveryStepOnlyAddsPinEvents := by
  intro s t h
  obtain ⟨hrst, ⟨ws, htrace⟩, -, -⟩ := step_wired h
  refine ⟨hrst, (wireEvents ws).reverse, htrace, fun l hl => ?_⟩
  exact setReset_notMem_wireEvents l ws (List.mem_reverse.1 hl)

/-! ### The response of a command inside its buffer -/

/-- The response is a canonical buffer and lies inside its 64 bytes (42_dap_dispatch.md R189). -/
def ResponseFits (s : State) : Prop := Memory.wf s.respBuf = true ∧ s.respLen ≤ Config.respCap

theorem errorResponse_fits (c : ErrorCause) (s : State) : ResponseFits (errorResponse c s) :=
  ⟨rfl, Nat.le_of_ble_eq_true rfl⟩

/-- A handler that answered in a canonical buffer, with its cursor inside it. -/
theorem endCommand_fits {s : State} (hbuf : Memory.wf s.respBuf = true) (hwp : s.wp ≤ 64) :
    ResponseFits (endCommand s) :=
  ⟨hbuf, hwp⟩

theorem beginCommand_wf (op : Byte) (s : State) : Memory.wf (beginCommand op s).respBuf = true := rfl

/-- A value of the table leaves room for the two bytes before it (43_dap_config_info.md R212). -/
theorem infoValue_length_le (table : Byte → Option Config.InfoValue) (id : Byte) :
    (infoValue table id).length ≤ 62 := by
  unfold infoValue
  split
  · next v _ => exact v.property
  · exact Nat.zero_le _

theorem infoCommand_fits (table : Byte → Option Config.InfoValue) (id : Byte) (s : State) :
    ResponseFits (infoCommand table id s) :=
  endCommand_fits (respWriteBytes_wf _ _ _ (respWrite_wf _ _ _ _ (beginCommand_wf 0x00 s)))
    (Nat.add_le_add_left (infoValue_length_le table id) 2)

/-- The echo, one status byte, and the cursors: the answer the control commands share. -/
theorem statusReply_fits (op : Byte) (v rp : Nat) (s : State) :
    ResponseFits (endCommand { (beginCommand op s).respWrite 1 1 v with rp := rp, wp := 2 }) :=
  endCommand_fits (respWrite_wf _ _ _ _ (beginCommand_wf op s)) (Nat.le_of_ble_eq_true rfl)

theorem transferResponse_fits (d : Direction) {s : State} (hbuf : Memory.wf s.respBuf = true) :
    ResponseFits (endCommand (transferResponse d s)) := by
  have hstatus := respWrite_wf 1 1 s.res.ack.toNat s hbuf
  unfold transferResponse
  dsimp only
  split
  · refine endCommand_fits ?_ ?_
    · dsimp only
      exact respWrite_wf _ _ _ _ hstatus
    · exact Nat.le_of_ble_eq_true rfl
  · exact endCommand_fits hstatus (Nat.le_of_ble_eq_true rfl)

theorem transferCommand_fits (trn : Nat) (rq : Byte) (operand : Word) (s : State) :
    ResponseFits (transferCommand trn rq operand s) :=
  transferResponse_fits _ (by rw [(transferWithRetry_frame trn _ _).respBuf]; exact beginCommand_wf 0x05 s)

/-- A sub-transfer leaves the response and the count of sub-transfers to its store (44_dap_transfer.md R252). -/
theorem subTransfer_respBuf_doneCount (trn : Nat) (req : TransferRequest) (data : List Byte) (s : State) :
    let t := transferWithRetry trn (loadBlockWord req data s).req (loadBlockWord req data s)
    t.respBuf = s.respBuf ∧ t.doneCount = s.doneCount := by
  have hload : (loadBlockWord req data s).respBuf = s.respBuf ∧ (loadBlockWord req data s).doneCount = s.doneCount := by
    unfold loadBlockWord
    split <;> exact ⟨rfl, rfl⟩
  have hrun := transferWithRetry_frame trn (loadBlockWord req data s).req (loadBlockWord req data s)
  exact ⟨hrun.respBuf.trans hload.1, hrun.doneCount.trans hload.2⟩

theorem storeBlockWord_doneCount (d : Direction) (s : State) : (storeBlockWord d s).doneCount = s.doneCount + 1 := rfl

theorem storeBlockWord_wf (d : Direction) {s : State} (h : Memory.wf s.respBuf = true) :
    Memory.wf (storeBlockWord d s).respBuf = true := by
  unfold storeBlockWord
  dsimp only
  split
  · exact respWrite_wf _ _ _ _ h
  · exact h

/-- A block keeps its response canonical and completes no more sub-transfers than it has (44_dap_transfer.md R252). -/
theorem blockLoop_wf_doneCount (trn : Nat) (req : TransferRequest) (data : List Byte) (more : Nat) (ack : BitVec 4)
    (s : State) (h : Memory.wf s.respBuf = true) :
    Memory.wf (blockLoop trn req data more ack s).2.respBuf = true ∧
      (blockLoop trn req data more ack s).2.doneCount ≤ s.doneCount + more := by
  induction more generalizing ack s with
  | zero => exact ⟨h, Nat.le_refl _⟩
  | succ more ih =>
    obtain ⟨hbuf, hcount⟩ := subTransfer_respBuf_doneCount trn req data s
    rw [blockLoop]
    split
    · obtain ⟨hwf, hle⟩ := ih _ _ (storeBlockWord_wf req.direction (hbuf ▸ h))
      rw [storeBlockWord_doneCount, hcount, Nat.add_assoc, Nat.add_comm 1] at hle
      exact ⟨hwf, hle⟩
    · exact ⟨hbuf ▸ h, hcount ▸ Nat.le_add_right _ _⟩

/-- A block that passes its checks and reads fits its response (44_dap_transfer.md R251). -/
theorem blockCheck_read {rq : Byte} {count : BitVec 16} {data : List Byte} (h : blockCheck rq count data = none)
    (hread : rqDirection rq = .read) : 4 + 4 * count.toNat ≤ 64 := by
  unfold blockCheck at h
  rw [hread] at h
  split at h
  · cases h
  · dsimp only at h
    split at h
    · cases h
    · next hle => exact Nat.le_of_not_lt hle

theorem blockCommand_fits (trn : Nat) {rq : Byte} {count : BitVec 16} {data : List Byte} (s : State)
    (h : blockCheck rq count data = none) : ResponseFits (blockCommand trn rq count data s) := by
  obtain ⟨hwf, hle⟩ := blockLoop_wf_doneCount trn (requestOf rq s.req.value) data count.toNat 0
    { beginCommand 0x06 s with rp := 4, doneCount := 0, req := requestOf rq s.req.value } (beginCommand_wf 0x06 s)
  refine endCommand_fits (respWrite_wf _ _ _ _ (respWrite_wf _ _ _ _ hwf)) ?_
  cases hd : rqDirection rq with
  | write => simp [blockResponse]
  | read =>
    have hfit := blockCheck_read h hd
    simp only [blockResponse, Nat.zero_add] at hle ⊢
    omega

theorem sequenceCommand_fits (n : Byte) (data : List Byte) (s : State) : ResponseFits (sequenceCommand n data s) :=
  endCommand_fits
    (respWrite_wf _ _ _ _ (by rw [(generateSequence_frame _ data _).respBuf]; exact beginCommand_wf 0x12 s))
    (Nat.le_of_ble_eq_true rfl)

/-- Every command's response fits its buffer, whatever the target answers (42_dap_dispatch.md R189). -/
theorem exec_packet_fits {i : Instr} {s t : State} (hi : i.wordPort = .packet) (h : exec i s = .next t) :
    ResponseFits t := by
  cases i <;> try contradiction
  case info id => cases h; exact infoCommand_fits _ id s
  case hostStatus => cases h; exact statusReply_fits 0x01 0 3 s
  case connect port => cases h; exact statusReply_fits 0x02 (connectResult port).toNat 2 s
  case disconnect => cases h; exact statusReply_fits 0x03 0 1 s
  case xferCfg => cases h; exact statusReply_fits 0x04 0 6 s
  case xferAbort => cases h; exact endCommand_fits (beginCommand_wf 0x07 s) (Nat.le_of_ble_eq_true rfl)
  case xfer rq operand =>
    obtain rfl | rfl := exec_xfer_cases h
    · exact errorResponse_fits _ s
    · exact transferCommand_fits _ rq operand s
  case xferBlk rq count data =>
    obtain ⟨c, rfl⟩ | ⟨hcheck, rfl⟩ := exec_xferBlk_cases h
    · exact errorResponse_fits c s
    · exact blockCommand_fits _ s hcheck
  case swjSeq n data =>
    obtain rfl | rfl := exec_swjSeq_cases h
    · exact errorResponse_fits _ s
    · exact sequenceCommand_fits n data s
  all_goals cases h; exact errorResponse_fits _ s

/-! ### Every step keeps the invariant -/

theorem BufferInv.of_frame {s t : State} (h : EngineFrame s t) (hs : BufferInv s) : BufferInv t := by
  obtain ⟨hreq, hresp, hlen, hbusy⟩ := hs
  exact ⟨h.reqBuf ▸ hreq, h.respBuf ▸ hresp, h.respLen ▸ hlen, h.busy.trans hbusy⟩

theorem acceptPacket_reqBuf_wf (bytes : List Byte) (rest : List Input) (s : State) :
    Memory.wf (acceptPacket bytes rest s).reqBuf = true :=
  wf_ofBytes _ 0 ((Nat.zero_add _).trans_le (List.length_take_le _ _))

/-- A command returns with its response inside the buffer and no command in progress; the engine's own operations
leave the buffers as they are (10_state.md R38). -/
theorem step_bufferInv {s t : State} (h : step s = .next t) (hs : BufferInv s) : BufferInv t := by
  cases step_cases h with
  | wait => exact hs
  | rejected hidle bytes rest c =>
    obtain ⟨hwf, hlen⟩ := errorResponse_fits c (acceptPacket bytes rest s)
    exact ⟨acceptPacket_reqBuf_wf bytes rest s, hwf, hlen, rfl⟩
  | command hidle bytes rest i u hi hu =>
    obtain ⟨hwf, hlen⟩ := exec_packet_fits hi hu
    obtain ⟨hframe, -⟩ := whoWritesWhat i _ u hu
    exact ⟨hframe.reqBuf ▸ acceptPacket_reqBuf_wf bytes rest s, hwf, hlen, rfl⟩
  | attempt hidle req value rest => exact .of_frame (executeTransfer_frame _ req _) hs
  | startTransfer hidle req rest =>
    have hstart := (latchRequest_frame req { s with inputs := rest }).trans (enterPhase_frame .hdr _)
    exact .of_frame (hstart.trans (setDirection_frame .output _)) hs
  | startSequence hidle n bits rest hfits => exact .of_frame (startSequence_frame n bits _) hs
  | acknowledged hack => exact .of_frame (afterAck_frame _ s) hs
  | clocked hphase hcycles => exact .of_frame (clock_frame hphase) hs

/-- Settles O58: the line and the phase go through the wire of the step, the clock rests high after each of its cycles,
and the buffers are written by commands alone, which answer inside them. -/
theorem everyStepKeepsTheInvariant : Obligations.EveryStepKeepsTheInvariant := by
  intro s t hs h
  have hwired := step_wired h
  obtain ⟨hline, hphase⟩ := hwired.line ⟨hs.line, hs.phase⟩
  exact ⟨hline, hwired.clock hs.clock, hphase, step_bufferInv h hs.buffer⟩

end Sys2Proof.Machine
end

section
/-! PROOF. The transfer family (41_swd_transfer.md): the whole state after an attempt and after a raw sequence, whatever
the target answers, and the state machine that makes the same, clock cycle by clock cycle. -/

namespace Sys2Proof.Machine

/-! ### The engine's own entry -/

theorem step_eq_takeInput {s : State} (hidle : s.fsm = .idle) (hbusy : s.busy = false) : step s = takeInput s := by
  rw [step, if_pos hidle, if_neg (by simp [hbusy])]

theorem decodeHeader_eq_error {w : Byte} (h : ∀ p d k, w ≠ headerWord p d k) : ∃ e, decodeHeader w = .error e := by
  cases hdecode : decodeHeader w with
  | error e => exact ⟨e, rfl⟩
  | ok i => exact absurd (eq_headerWord_of_decodeHeader hdecode) (h _ _ _)

/-- Settles O60: each refusal is the answer of the check that fails, and a byte that decodes as a header is one. -/
theorem engineEntryRefusesBrokenPreconditions : Obligations.EngineEntryRefusesBrokenPreconditions := by
  refine ⟨fun s n bits rest hidle hbusy hin hshort => ?_, fun s w v rest hidle hbusy hin hw => ?_,
    fun s hidle hbusy => ?_⟩
  · have hfits : sequenceFits n bits = false := decide_eq_false (Nat.not_le.2 hshort)
    simp [step_eq_takeInput hidle hbusy, takeInput, hin, hfits]
  · obtain ⟨e, he⟩ := decodeHeader_eq_error hw
    simp [step_eq_takeInput hidle hbusy, takeInput, hin, he]
  · rw [step, if_pos hidle, if_pos hbusy]

/-! ### Sampling, whatever the target answers -/

/-- A placed bit leaves the bits below it. -/
theorem placeBit_getLsbD_of_lt {w k i : Nat} (v : BitVec w) (b : Bool) (hk : k < w) (hi : i < k) :
    (placeBit v k b).getLsbD i = v.getLsbD i := by
  rw [placeBit_getLsbD v k i b hk, if_neg hi.ne]

theorem placeBit_getLsbD_same {w k : Nat} (v : BitVec w) (b : Bool) (hk : k < w) : (placeBit v k b).getLsbD k = b := by
  rw [placeBit_getLsbD v k k b hk, if_pos rfl]

theorem lowBits_placeBit {w k : Nat} (v : BitVec w) (b : Bool) (hk : k < w) :
    (List.range k).map (placeBit v k b).getLsbD = (List.range k).map v.getLsbD :=
  List.map_congr_left fun _ hi => placeBit_getLsbD_of_lt v b hk (List.mem_range.1 hi)

theorem parityBelow_congr {w : Nat} {u v : BitVec w} {n : Nat} (h : ∀ i < n, u.getLsbD i = v.getLsbD i) :
    parityBelow u n = parityBelow v n := by
  induction n with
  | zero => rfl
  | succ n ih => rw [parityBelow, parityBelow, ih fun i hi => h i (Nat.lt_succ_of_lt hi), h n (Nat.lt_succ_self n)]

/-- The parity after one more bit is placed (41_swd_transfer.md R137). -/
theorem parityBelow_placeBit {w k : Nat} (v : BitVec w) (b : Bool) (hk : k < w) :
    parityBelow (placeBit v k b) (k + 1) = (parityBelow v k ^^ b) := by
  rw [parityBelow, placeBit_getLsbD_same v b hk, parityBelow_congr fun _ hi => placeBit_getLsbD_of_lt v b hk hi]

/-- The wire trace after one more bit is sampled and placed (41_swd_transfer.md R135, R137). -/
theorem afterWire_placeBit {w k : Nat} (v : BitVec w) (b : Bool) (hk : k < w) (t : List PinEvent) :
    afterWire (((List.range (k + 1)).map (placeBit v k b).getLsbD).map .r) t =
      afterWire [.r b] (afterWire (((List.range k).map v.getLsbD).map .r) t) := by
  rw [List.range_succ, List.map_append, List.map_append, lowBits_placeBit v b hk, afterWire_append, List.map_singleton,
    placeBit_getLsbD_same v b hk, List.map_singleton]

/-- Acknowledgement bits sampled from any target: the register holds the levels it answered. -/
theorem sampleAckBits_any (n : Nat) (hn : n ≤ 3) (s : State) : ∃ a : BitVec 3, forCnt sampleAckBit n s =
    { s with
      clk := if n = 0 then s.clk else true, ack := a, samples := s.samples.drop n
      trace := afterWire (((List.range n).map a.getLsbD).map .r) s.trace } := by
  induction n with
  | zero => exact ⟨s.ack, rfl⟩
  | succ n ih =>
    obtain ⟨a, ha⟩ := ih (Nat.le_of_succ_le hn)
    refine ⟨placeBit a n (sampledBit (forCnt sampleAckBit n s)), ?_⟩
    rw [forCnt_succ, afterWire_placeBit a _ hn, ha, if_neg (Nat.succ_ne_zero n), ← List.tail_drop]
    rfl

/-- Data bits sampled from any target: the register holds the levels it answered, and the running parity theirs. -/
theorem sampleDataBits_any (n : Nat) (hn : n ≤ 32) (s : State) : ∃ v : Word, forCnt sampleDataBit n s =
    { s with
      clk := if n = 0 then s.clk else true, shift := v, par := s.par ^^ parityBelow v n, samples := s.samples.drop n
      trace := afterWire (((List.range n).map v.getLsbD).map .r) s.trace } := by
  induction n with
  | zero => exact ⟨s.shift, by simp [parityBelow]⟩
  | succ n ih =>
    obtain ⟨v, hv⟩ := ih (Nat.le_of_succ_le hn)
    refine ⟨placeBit v n (sampledBit (forCnt sampleDataBit n s)), ?_⟩
    rw [forCnt_succ, afterWire_placeBit v _ hn, parityBelow_placeBit v _ hn, hv, if_neg (Nat.succ_ne_zero n),
      ← List.tail_drop, ← Bool.xor_assoc]
    rfl

/-! ### The phases of an attempt, whatever the target answers -/

/-- The state in which an attempt has sampled the acknowledgement `a` (41_swd_transfer.md R132 to R135). -/
def afterHeader (trn : Nat) (req : TransferRequest) (a : BitVec 3) (rest : List Bool) (s : State) : State :=
  { s with
    req := req, hdr := headerOf req, perr := false, dir := .input, clk := true, dout := true, ack := a
    samples := rest, trace := afterWire (headerWire trn req a) s.trace }

/-- An attempt up to its acknowledgement: the request latched, the header driven, the acknowledgement sampled. -/
def headerAndAck (trn : Nat) (req : TransferRequest) (s : State) : State :=
  ackPhase trn (headerPhase (latchRequest req s))

theorem executeTransfer_eq (trn : Nat) (req : TransferRequest) (s : State) :
    executeTransfer trn req s = afterAck trn (headerAndAck trn req s) := rfl

/-- The header rests at its park bit (30_encoding.md R71). -/
theorem headerPhase_latchRequest (req : TransferRequest) (s : State) : headerPhase (latchRequest req s) =
    { s with
      req := req, hdr := headerOf req, perr := false, dir := .output, clk := true, dout := true
      trace := afterWire (.out :: (wireBits (headerOf req)).map .w) s.trace } := by
  obtain ⟨-, -, hpark, -⟩ := headerWord_framing req.port req.direction req.registerIndex
  have hpark : (latchRequest req s).hdr.getLsbD 7 = true := hpark
  rw [headerPhase_eq, hpark]
  rfl

theorem headerAndAck_eq (trn : Nat) (req : TransferRequest) (a : BitVec 3) (rest : List Bool) (s : State)
    (h : s.samples = ackAnswer a ++ rest) : headerAndAck trn req s = afterHeader trn req a rest s := by
  rw [headerAndAck, headerPhase_latchRequest, ackPhase_eq trn a rest _ (by exact h), afterHeader]
  simp only [headerWire, List.append_assoc, List.cons_append, afterWire_append, afterWire_cons]

theorem headerAndAck_any (trn : Nat) (req : TransferRequest) (s : State) :
    ∃ a, headerAndAck trn req s = afterHeader trn req a (s.samples.drop 3) s := by
  obtain ⟨a, ha⟩ := sampleAckBits_any 3 (Nat.le_refl 3)
    (turnCycles trn (setDirection .input (headerPhase (latchRequest req s))))
  refine ⟨a, ?_⟩
  rw [headerAndAck, ackPhase, ha, headerPhase_latchRequest, turnCycles_eq, afterHeader]
  simp only [headerWire, List.append_assoc, List.cons_append, afterWire_append, afterWire_cons]
  rfl

/-! ### What follows the acknowledgement -/

theorem noDataPhase_eq (trn : Nat) (s : State) : noDataPhase trn s =
    { s with
      clk := if trn = 0 then s.clk else true, trace := afterWire (List.replicate trn .z) s.trace
      res := ⟨s.ack.setWidth 4, none⟩, fsm := .idle, cnt := 0 } := by
  rw [noDataPhase, turnCycles_eq]
  rfl

/-- The result of a read by its parity bit (41_swd_transfer.md R138). -/
theorem readResult_xor (pb p : Bool) (v : Word) :
    readResult (pb ^^ p) v = if pb = p then ⟨1, some v⟩ else ⟨8, none⟩ := by
  cases pb <;> cases p <;> rfl

/-- The state in which the data phase of a read has sampled the bits of `v` and the parity bit `pb`, made its turnaround
and idle cycles and ended (41_swd_transfer.md R137, R138, R141). -/
def afterReadData (trn : Nat) (v : Word) (pb : Bool) (rest : List Bool) (s : State) : State :=
  { s with
    clk := true, shift := v, par := parity v, perr := pb ^^ parity v, samples := rest
    trace := afterWire
      ((wireBits v).map .r ++ .r pb :: List.replicate trn .z ++ List.replicate s.cfg.idleCycles.toNat .z) s.trace
    res := if pb = parity v then ⟨1, some v⟩ else ⟨8, none⟩, fsm := .idle, cnt := 0 }

/-- A read's data phase after its 33 samples. -/
theorem readPhase_of_samples {trn : Nat} {v : Word} {pb : Bool} {rest : List Bool} {s : State}
    (h : sampleParityBit (readDataPhase s) =
      { s with
        clk := true, shift := v, par := parity v, perr := pb ^^ parity v, samples := rest
        trace := afterWire ((wireBits v).map .r ++ [.r pb]) s.trace }) :
    readPhase trn s = afterReadData trn v pb rest s := by
  rw [readPhase, h, turnCycles_eq, idleCyclesAfterRead, turnCycles_eq, afterReadData, ← readResult_xor]
  simp only [List.append_assoc, List.cons_append, afterWire_append, afterWire_cons, ite_self]
  rfl

theorem readPhase_eq (trn : Nat) (v : Word) (pb : Bool) (rest : List Bool) (s : State)
    (h : s.samples = wireBits v ++ pb :: rest) : readPhase trn s = afterReadData trn v pb rest s := by
  refine readPhase_of_samples ?_
  rw [readDataPhase_eq v _ s h, sampleParityBit_eq pb rest _ rfl, afterWire_append]

theorem readDataPhase_any (s : State) : ∃ v, readDataPhase s =
    { s with
      clk := true, shift := v, par := parity v, samples := s.samples.drop 32
      trace := afterWire ((wireBits v).map .r) s.trace } := by
  obtain ⟨v, hv⟩ := sampleDataBits_any 32 (Nat.le_refl 32) { s with par := false }
  refine ⟨v, ?_⟩
  rw [readDataPhase, hv, Bool.false_xor]
  rfl

theorem sampleParityBit_any (s : State) : ∃ pb, sampleParityBit s =
    { s with
      clk := true, perr := pb ^^ s.par, samples := s.samples.tail, trace := afterWire [.r pb] s.trace } :=
  ⟨sampledBit s, rfl⟩

theorem readPhase_any (trn : Nat) (s : State) :
    ∃ v pb, readPhase trn s = afterReadData trn v pb (s.samples.drop 33) s := by
  obtain ⟨v, hv⟩ := readDataPhase_any s
  obtain ⟨pb, hpb⟩ := sampleParityBit_any (readDataPhase s)
  have hrest : (s.samples.drop 32).tail = s.samples.drop 33 := List.tail_drop
  refine ⟨v, pb, readPhase_of_samples ?_⟩
  rw [hpb, hv, afterWire_append, ← hrest]

theorem writePhase_eq (trn : Nat) (s : State) : writePhase trn s =
    { s with
      dir := .output, clk := true, dout := if s.cfg.idleCycles = 0 then parity s.req.value else false
      shift := s.req.value, par := parity s.req.value
      trace := afterWire (List.replicate trn .z ++ .out :: (wireBits s.req.value).map .w
        ++ .w (parity s.req.value) ::
          (if s.cfg.idleCycles = 0 then [] else .low :: List.replicate s.cfg.idleCycles.toNat .z)) s.trace
      res := ⟨1, none⟩, fsm := .idle, cnt := 0 } := by
  rw [writePhase, turnCycles_eq, writeDataPhase_eq, driveParityBit, writeBit_eq, idleCyclesAfterWrite_eq]
  simp only [List.append_assoc, List.cons_append, afterWire_append, afterWire_cons, ite_self]
  rfl

/-! ### A whole attempt -/

theorem afterAck_noData {trn : Nat} {s : State} (h : s.ack ≠ 1) : afterAck trn s = noDataPhase trn s := if_neg h

theorem afterAck_read {trn : Nat} {s : State} (h : s.ack = 1) (hd : s.req.direction = .read) :
    afterAck trn s = readPhase trn s := by
  rw [afterAck, if_pos (show s.ack = ackOk from h), dataPhase, hd]

theorem afterAck_write {trn : Nat} {s : State} (h : s.ack = 1) (hd : s.req.direction = .write) :
    afterAck trn s = writePhase trn s := by
  rw [afterAck, if_pos (show s.ack = ackOk from h), dataPhase, hd]

theorem noDataPhase_afterHeader (trn : Nat) (req : TransferRequest) (a : BitVec 3) (rest : List Bool) (s : State) :
    noDataPhase trn (afterHeader trn req a rest s) = afterNoData trn req a rest s := by
  rw [noDataPhase_eq, afterNoData, noDataWire, afterWire_append]
  simp only [afterHeader, ite_self]

theorem afterReadData_afterHeader (trn : Nat) (req : TransferRequest) (v : Word) (pb : Bool) (rest rest' : List Bool)
    (s : State) : afterReadData trn v pb rest' (afterHeader trn req 1 rest s) = afterRead trn req v pb rest' s := by
  rw [afterReadData, afterRead, readWire]
  simp only [List.append_assoc, afterWire_append]
  rfl

theorem idleCycles_toNat_eq_zero (n : BitVec 8) : n.toNat = 0 ↔ n = 0 := by bv_omega

theorem writePhase_afterHeader (trn : Nat) (req : TransferRequest) (rest : List Bool) (s : State) :
    writePhase trn (afterHeader trn req 1 rest s) = afterWrite trn req rest s := by
  rw [writePhase_eq, afterWrite, writeWire]
  simp only [idleCycles_toNat_eq_zero, List.append_assoc, afterWire_append]
  rfl

/-- What an attempt can do, whatever the target answers (41_swd_transfer.md R136 to R139, R142). -/
inductive AttemptCase (trn : Nat) (req : TransferRequest) (s : State) : State → Prop
  | noData (a : BitVec 3) (ha : a ≠ 1) : AttemptCase trn req s (afterNoData trn req a (s.samples.drop 3) s)
  | read (hd : req.direction = .read) (v : Word) (pb : Bool) :
      AttemptCase trn req s (afterRead trn req v pb (s.samples.drop 36) s)
  | write (hd : req.direction = .write) : AttemptCase trn req s (afterWrite trn req (s.samples.drop 3) s)

theorem executeTransfer_cases (trn : Nat) (req : TransferRequest) (s : State) :
    AttemptCase trn req s (executeTransfer trn req s) := by
  obtain ⟨a, ha⟩ := headerAndAck_any trn req s
  rw [executeTransfer_eq, ha]
  by_cases h : a = 1
  · subst h
    cases hd : req.direction with
    | read =>
      obtain ⟨v, pb, hread⟩ := readPhase_any trn (afterHeader trn req 1 (s.samples.drop 3) s)
      have hrest : (afterHeader trn req 1 (s.samples.drop 3) s).samples.drop 33 = s.samples.drop 36 := List.drop_drop
      rw [afterAck_read rfl hd, hread, afterReadData_afterHeader, hrest]
      exact .read hd v pb
    | write =>
      rw [afterAck_write rfl hd, writePhase_afterHeader]
      exact .write hd
  · rw [afterAck_noData (s := afterHeader trn req a _ s) h, noDataPhase_afterHeader]
    exact .noData a h

theorem executeTransfer_noData {trn : Nat} {req : TransferRequest} {s : State} {a : BitVec 3} {rest : List Bool}
    (h : s.samples = ackAnswer a ++ rest) (ha : a ≠ 1) :
    executeTransfer trn req s = afterNoData trn req a rest s := by
  rw [executeTransfer_eq, headerAndAck_eq trn req a rest s h, afterAck_noData (s := afterHeader trn req a rest s) ha,
    noDataPhase_afterHeader]

theorem executeTransfer_read {trn : Nat} {req : TransferRequest} {s : State} {v : Word} {pb : Bool} {rest : List Bool}
    (h : s.samples = readAnswer v pb ++ rest) (hd : req.direction = .read) :
    executeTransfer trn req s = afterRead trn req v pb rest s := by
  have hack : s.samples = ackAnswer 1 ++ (wireBits v ++ pb :: rest) := by
    simpa only [readAnswer, ackOk, List.append_assoc, List.singleton_append] using h
  rw [executeTransfer_eq, headerAndAck_eq trn req 1 _ s hack, afterAck_read rfl hd, readPhase_eq trn v pb rest _ rfl,
    afterReadData_afterHeader]

theorem executeTransfer_write {trn : Nat} {req : TransferRequest} {s : State} {rest : List Bool}
    (h : s.samples = ackAnswer 1 ++ rest) (hd : req.direction = .write) :
    executeTransfer trn req s = afterWrite trn req rest s := by
  rw [executeTransfer_eq, headerAndAck_eq trn req 1 rest s h, afterAck_write rfl hd, writePhase_afterHeader]

/-! ### The header instructions -/

theorem exec_swdHdr (p : Port) (d : Direction) (k : BitVec 2) (s : State) :
    exec (.swdHdr p d k) s = .next (executeTransfer 0 ⟨p, d, k, s.req.value⟩ s) := rfl

/-- Each of the sixteen headers runs the attempt of its own port, direction and index (30_encoding.md R74). -/
theorem exec_headerInstr (p : Port) (d : Direction) (k : BitVec 2) (s : State) :
    exec (headerInstr p d k) s = .next (executeTransfer 0 ⟨p, d, k, s.req.value⟩ s) := by
  have hk : k = 0 ∨ k = 1 ∨ k = 2 ∨ k = 3 := by decide +revert
  obtain rfl | rfl | rfl | rfl := hk <;> cases p <;> cases d <;> rfl

/-- Settles O21: the acknowledgement as it was answered, and the end without a data phase. -/
theorem attemptNotAcknowledgedOkEndsAtOnce : Obligations.AttemptNotAcknowledgedOkEndsAtOnce := by
  refine ⟨fun trn req s a rest h ha => executeTransfer_noData h ha, fun p d k s a rest h ha => ?_⟩
  rw [exec_headerInstr, exec_swdHdr, executeTransfer_noData h ha]
  exact ⟨rfl, rfl⟩

/-- Settles O22: the acknowledgement OK and the data phase of a read. -/
theorem acknowledgedReadSamplesTheValue : Obligations.AcknowledgedReadSamplesTheValue := by
  refine ⟨fun trn req s v pb rest h hd => executeTransfer_read h hd, fun p k s v pb rest h => ?_⟩
  rw [exec_headerInstr, exec_swdHdr, executeTransfer_read h rfl]
  exact ⟨rfl, rfl⟩

/-- Settles O23: the acknowledgement OK and the data phase of a write. -/
theorem acknowledgedWriteDrivesTheValue : Obligations.AcknowledgedWriteDrivesTheValue := by
  refine ⟨fun trn req s rest h hd => executeTransfer_write h hd, fun p k s rest h => ?_⟩
  rw [exec_headerInstr, exec_swdHdr, executeTransfer_write h rfl]
  exact ⟨rfl, rfl⟩

/-! ### The acknowledgement OK as an instruction -/

theorem exec_ackOk_read {s : State} (hd : s.req.direction = .read) :
    exec .ackOk s = .next (readPhase 0 { s with ack := 1 }) := by
  rw [exec, execAckOk, dataPhase, hd]
  rfl

theorem exec_ackOk_write {s : State} (hd : s.req.direction = .write) :
    exec .ackOk s = .next (writePhase 0 { s with ack := 1 }) := by
  rw [exec, execAckOk, dataPhase, hd]
  rfl

/-- Settles O25: the data phase of the latched direction, with no turnaround cycle. -/
theorem acknowledgementOkOpensTheDataPhase : Obligations.AcknowledgementOkOpensTheDataPhase := by
  refine ⟨fun s v pb rest hd h => ?_, fun s hd => ?_⟩
  · rw [exec_ackOk_read hd, readPhase_eq 0 v pb rest _ (by exact h)]
    rfl
  · rw [exec_ackOk_write hd, writePhase_eq]
    rfl

/-! ### The clock cycles of an attempt (41_swd_transfer.md R147) -/

/-- Whether a symbol of the wire trace is a clock cycle (40_pin_primitive.md R116). -/
def WireSymbol.isCycle : WireSymbol → Bool
  | .w _ => true
  | .r _ => true
  | .z => true
  | .out => false
  | .rel => false
  | .low => false

/-- The clock cycles of a wire trace. -/
def wireCycles (ws : List WireSymbol) : Nat := ws.countP WireSymbol.isCycle

theorem clockCycles_afterWire_eq_add (ws : List WireSymbol) (t : List PinEvent) :
    clockCycles (afterWire ws t) = clockCycles t + wireCycles ws := by
  rw [clockCycles_afterWire, wireCycles]
  congr 2
  funext x
  cases x <;> rfl

@[simp] theorem wireCycles_nil : wireCycles [] = 0 := rfl

@[simp] theorem wireCycles_append (a b : List WireSymbol) : wireCycles (a ++ b) = wireCycles a + wireCycles b :=
  List.countP_append

@[simp] theorem wireCycles_cons (x : WireSymbol) (ws : List WireSymbol) :
    wireCycles (x :: ws) = wireCycles ws + x.isCycle.toNat := by
  rw [wireCycles, List.countP_cons]
  cases x.isCycle <;> rfl

@[simp] theorem wireCycles_replicate_z (n : Nat) : wireCycles (List.replicate n .z) = n := by
  simp [wireCycles, List.countP_replicate, WireSymbol.isCycle]

@[simp] theorem wireCycles_map_w {w : Nat} (v : BitVec w) : wireCycles ((wireBits v).map .w) = w := by
  simp [wireCycles, wireBits, WireSymbol.isCycle, Function.comp_def]

@[simp] theorem wireCycles_map_r {w : Nat} (v : BitVec w) : wireCycles ((wireBits v).map .r) = w := by
  simp [wireCycles, wireBits, WireSymbol.isCycle, Function.comp_def]

theorem wireCycles_headerWire (trn : Nat) (req : TransferRequest) (a : BitVec 3) :
    wireCycles (headerWire trn req a) = 11 + trn := by
  simp only [headerWire, wireCycles_append, wireCycles_cons, wireCycles_map_w, wireCycles_map_r,
    wireCycles_replicate_z, WireSymbol.isCycle, Bool.toNat_false]
  omega

theorem wireCycles_readWire (trn idle : Nat) (req : TransferRequest) (v : Word) (pb : Bool) :
    wireCycles (readWire trn idle req v pb) = 44 + 2 * trn + idle := by
  simp only [readWire, wireCycles_append, wireCycles_cons, wireCycles_headerWire, wireCycles_map_r,
    wireCycles_replicate_z, WireSymbol.isCycle, Bool.toNat_true]
  omega

/-- The low before the idle cycles of a write is no cycle of its own (41_swd_transfer.md R141). -/
theorem wireCycles_idle (idle : Nat) :
    wireCycles (if idle = 0 then [] else .low :: List.replicate idle .z) = idle := by
  split
  · next h => exact h.symm
  · rw [wireCycles_cons, wireCycles_replicate_z]
    rfl

theorem wireCycles_writeWire (trn idle : Nat) (req : TransferRequest) :
    wireCycles (writeWire trn idle req) = 44 + 2 * trn + idle := by
  simp only [writeWire, wireCycles_append, wireCycles_cons, wireCycles_headerWire, wireCycles_map_w,
    wireCycles_replicate_z, wireCycles_idle, WireSymbol.isCycle, Bool.toNat_false, Bool.toNat_true]
  omega

theorem clockCycles_afterNoData (trn : Nat) (req : TransferRequest) (a : BitVec 3) (rest : List Bool) (s : State) :
    clockCycles (afterNoData trn req a rest s).trace = clockCycles s.trace + (11 + 2 * trn) := by
  rw [afterNoData, clockCycles_afterWire_eq_add, noDataWire, wireCycles_append, wireCycles_headerWire,
    wireCycles_replicate_z]
  omega

theorem clockCycles_afterRead (trn : Nat) (req : TransferRequest) (v : Word) (pb : Bool) (rest : List Bool)
    (s : State) : clockCycles (afterRead trn req v pb rest s).trace =
      clockCycles s.trace + (44 + 2 * trn + s.cfg.idleCycles.toNat) := by
  rw [afterRead, clockCycles_afterWire_eq_add, wireCycles_readWire]

theorem clockCycles_afterWrite (trn : Nat) (req : TransferRequest) (rest : List Bool) (s : State) :
    clockCycles (afterWrite trn req rest s).trace =
      clockCycles s.trace + (44 + 2 * trn + s.cfg.idleCycles.toNat) := by
  rw [afterWrite, clockCycles_afterWire_eq_add, wireCycles_writeWire]

/-- Settles O26: each of the three cases of an attempt. -/
theorem resultOfAnAttemptByCase : Obligations.ResultOfAnAttemptByCase := by
  intro trn req s t
  have h : AttemptCase trn req s t := executeTransfer_cases trn req s
  clear_value t
  cases h with
  | noData a ha =>
    have hwide : a.setWidth 4 ≠ 1 ∧ (a.setWidth 4).toNat ≤ 8 := by decide +revert
    refine ⟨(if_neg ha).symm, ⟨nofun, fun h => absurd h.2 hwide.1⟩, hwide.2, rfl, ?_⟩
    rw [clockCycles_afterNoData]
    exact congrArg _ (if_neg ha).symm
  | read hd v pb =>
    refine ⟨?_, ?_, ?_, rfl, clockCycles_afterRead trn req v pb _ s⟩
    · rw [hd]
      exact (readResult_xor pb (parity v) v).symm
    · by_cases hp : pb = parity v <;> simp [afterRead, hp, hd]
    · by_cases hp : pb = parity v <;> simp [afterRead, hp]
  | write hd =>
    refine ⟨?_, ?_, Nat.le_of_ble_eq_true rfl, rfl, clockCycles_afterWrite trn req _ s⟩
    · rw [hd]
      rfl
    · simp [afterWrite, hd]

/-! ### Raw sequences, and the line at the end of an operation -/

/-- Settles O28: the cycles of a sequence drive its bits, and a sequence of no bit has no cycle. -/
theorem rawSequenceDrivesItsBits : Obligations.RawSequenceDrivesItsBits := by
  intro n bits s
  by_cases hn : n = 0
  · subst hn
    rfl
  · have hlast : n.toNat = n.toNat - 1 + 1 := (Nat.sub_add_cancel (BitVec.toNat_pos_of_ne_zero hn)).symm
    rw [generateSequence, driveSequenceBits_eq n.toNat (n.toNat - 1) hlast, afterSequence, if_neg hn, if_neg hn,
      sequenceWire, afterWire_cons]
    rfl

/-- Settles O27: the pins after each case of an attempt, and after a raw sequence. -/
theorem lineAndClockAtTheEndOfAnOperation : Obligations.LineAndClockAtTheEndOfAnOperation := by
  refine ⟨fun trn req s => ?_, fun n bits s hn => ?_⟩
  · intro t
    have hframe : EngineFrame s t := executeTransfer_frame trn req s
    have h : AttemptCase trn req s t := executeTransfer_cases trn req s
    clear_value t
    cases h with
    | noData a ha =>
      have hno : ¬(a = 1 ∧ req.direction = .write) := fun h => ha h.1
      exact ⟨(if_neg hno).symm, rfl, (if_neg hno).symm, hframe⟩
    | read hd v pb =>
      have hno : ¬((1 : BitVec 3) = 1 ∧ req.direction = .write) := fun h => by simp [hd] at h
      exact ⟨(if_neg hno).symm, rfl, (if_neg hno).symm, hframe⟩
    | write hd => exact ⟨(if_pos ⟨rfl, hd⟩).symm, rfl, (if_pos ⟨rfl, hd⟩).symm, hframe⟩
  · intro t
    have hframe : EngineFrame s t := generateSequence_frame n bits s
    have h : t = afterSequence n bits s := rawSequenceDrivesItsBits n bits s
    clear_value t
    subst h
    exact ⟨rfl, if_neg hn, if_neg hn, rfl, hframe⟩

/-! ### The state machine and the pseudocode (41_swd_transfer.md R151)

A phase is left with its own name and counter in the state; what is entered next overwrites both. -/

theorem exitIdle_read {s : State} (hd : s.req.direction = .read) :
    exitIdle s = finishTransfer (readResult s.perr s.shift) s := by
  rw [exitIdle, hd]

theorem exitIdle_write {s : State} (hd : s.req.direction = .write) : exitIdle s = finishTransfer writeResult s := by
  rw [exitIdle, hd]

/-- The idle cycles of a read, of any number, with the line released. -/
theorem runClock_enterIdle_read (trn : Nat) {s : State} (hd : s.req.direction = .read) (hdir : s.dir = .input) :
    runClock trn s.cfg.idleCycles.toNat (enterIdle s) =
      finishTransfer (readResult (idleCyclesAfterRead s).perr (idleCyclesAfterRead s).shift)
        (idleCyclesAfterRead s) := by
  have hexit : exitIdle (idleCyclesAfterRead s) = _ :=
    exitIdle_read (by rw [idleCyclesAfterRead, turnCycles_eq]; exact hd)
  rw [← hexit]
  unfold enterIdle
  split
  · next hzero =>
    rw [idleCyclesAfterRead, hzero]
    rfl
  · next hne =>
    have hpos : 0 < s.cfg.idleCycles.toNat := BitVec.toNat_pos_of_ne_zero hne
    rw [if_neg (by simp [hdir])]
    exact runClock_idlec trn s hpos

/-- The idle cycles of a write, of any number: before them the line is set low. -/
theorem runClock_enterIdle_write (trn : Nat) {s : State} (hd : s.req.direction = .write) (hdir : s.dir = .output) :
    runClock trn s.cfg.idleCycles.toNat (enterIdle s) = finishTransfer writeResult (idleCyclesAfterWrite s) := by
  have hexit : exitIdle (idleCyclesAfterWrite s) = _ := exitIdle_write (by rw [idleCyclesAfterWrite_eq]; exact hd)
  rw [← hexit]
  unfold enterIdle idleCyclesAfterWrite
  split
  · next hzero =>
    rw [hzero]
    rfl
  · next hne =>
    have hpos : 0 < s.cfg.idleCycles.toNat := BitVec.toNat_pos_of_ne_zero hne
    exact runClock_idlec trn (setData false s) hpos

/-- A transfer run clock by clock up to the end of its acknowledgement. -/
theorem runClock_startTransfer (trn : Nat) (req : TransferRequest) (s : State) :
    runClock trn (8 + trn + 3) (startTransfer req s) = exitAck trn (atPhase .ackp 3 (headerAndAck trn req s)) := by
  have hstart : startTransfer req s = atPhase .hdr 0 (setDirection .output (latchRequest req s)) := rfl
  have hturn (t : State) : setDirection .input (atPhase .hdr 8 t) = atPhase .hdr 8 (setDirection .input t) := rfl
  rw [runClock_add, runClock_add, hstart, runClock_hdr, runClock_enterTurn1, hturn, turnCycles_atPhase, atPhase_atPhase,
    runClock_ackp]
  rfl

/-- The second turnaround ends at its exit, in a phase and at a count that the exit does not read. -/
theorem runClock_enterTurn2_atPhase (trn : Nat) (f : Fsm) (c : Nat) (s : State) :
    ∃ c', runClock trn trn (enterTurn2 trn (atPhase f c s)) = exitTurn2 (atPhase .trn2 c' (turnCycles trn s)) := by
  obtain ⟨c', hc'⟩ := runClock_enterTurn2 trn (atPhase f c s)
  exact ⟨c', by rw [hc', turnCycles_atPhase, atPhase_atPhase]⟩

theorem exitTurn2_noData {f : Fsm} {c : Nat} {s : State} (h : s.ack ≠ 1) :
    exitTurn2 (atPhase f c s) = finishTransfer (ackResult s.ack) s := if_pos h

theorem exitTurn2_read {f : Fsm} {c : Nat} {s : State} (h : s.ack = 1) (hd : s.req.direction = .read) :
    exitTurn2 (atPhase f c s) = enterIdle s := by
  have hack : ¬(atPhase f c s).ack ≠ ackOk := not_not_intro h
  have hdir : (atPhase f c s).req.direction = .read := hd
  rw [exitTurn2, if_neg hack, hdir]
  rfl

theorem exitTurn2_write {f : Fsm} {c : Nat} {s : State} (h : s.ack = 1) (hd : s.req.direction = .write) :
    exitTurn2 (atPhase f c s) =
      atPhase .wdata 0 { setDirection .output s with shift := s.req.value, par := false } := by
  have hack : ¬(atPhase f c s).ack ≠ ackOk := not_not_intro h
  have hdir : (atPhase f c s).req.direction = .write := hd
  rw [exitTurn2, if_neg hack, hdir]
  rfl

theorem runClock_exitAck_noData {trn : Nat} {s : State} (h : s.ack ≠ 1) :
    runClock trn trn (exitAck trn (atPhase .ackp 3 s)) = noDataPhase trn s := by
  have hexit : exitAck trn (atPhase .ackp 3 s) = enterTurn2 trn (atPhase .ackp 3 s) := if_neg fun hread => h hread.1
  have hack : (turnCycles trn s).ack = s.ack := by rw [turnCycles_eq]
  obtain ⟨c, hturn⟩ := runClock_enterTurn2_atPhase trn .ackp 3 s
  rw [hexit, hturn, exitTurn2_noData (by rwa [hack]), hack]
  rfl

/-- The samples of a read and the turnaround after them leave the request, the acknowledgement and the line. -/
theorem readSamples_registers (trn : Nat) (s : State) :
    let t := turnCycles trn (sampleParityBit (readDataPhase s))
    t.ack = s.ack ∧ t.req = s.req ∧ t.dir = s.dir ∧ t.cfg = s.cfg := by
  obtain ⟨v, hv⟩ := readDataPhase_any s
  rw [turnCycles_eq, hv]
  exact ⟨rfl, rfl, rfl, rfl⟩

theorem runClock_exitAck_read {trn : Nat} {s : State} (h : s.ack = 1) (hd : s.req.direction = .read)
    (hdir : s.dir = .input) :
    runClock trn (32 + 1 + trn + s.cfg.idleCycles.toNat) (exitAck trn (atPhase .ackp 3 s)) = readPhase trn s := by
  have hexit : exitAck trn (atPhase .ackp 3 s) = atPhase .rdata 0 { s with par := false } := if_pos ⟨h, hd⟩
  have hparity (t : State) : enterReadParity (atPhase .rdata 32 t) = atPhase .rpar 0 t := rfl
  obtain ⟨hack', hreq', hdir', hcfg'⟩ := readSamples_registers trn s
  obtain ⟨c, hturn⟩ := runClock_enterTurn2_atPhase trn .rpar 1 (sampleParityBit (readDataPhase s))
  rw [runClock_add, runClock_add, runClock_add, hexit, runClock_rdata, hparity, runClock_rpar, ← readDataPhase, hturn,
    exitTurn2_read (hack'.trans h) (by rwa [hreq']), ← hcfg',
    runClock_enterIdle_read trn (by rwa [hreq']) (hdir'.trans hdir)]
  rfl

/-- The drive of a write leaves the request and the line driven. -/
theorem driven_registers (trn : Nat) (s : State) :
    let t := driveParityBit (writeDataPhase (setDirection .output (turnCycles trn s)))
    t.req = s.req ∧ t.dir = .output ∧ t.cfg = s.cfg := by
  rw [writeDataPhase_eq, turnCycles_eq]
  exact ⟨rfl, rfl, rfl⟩

theorem runClock_exitAck_write {trn : Nat} {s : State} (h : s.ack = 1) (hd : s.req.direction = .write) :
    runClock trn (trn + 32 + 1 + s.cfg.idleCycles.toNat) (exitAck trn (atPhase .ackp 3 s)) = writePhase trn s := by
  have hexit : exitAck trn (atPhase .ackp 3 s) = enterTurn2 trn (atPhase .ackp 3 s) :=
    if_neg fun hread => by simp [atPhase, hd] at hread
  have hparity (t : State) : enterWriteParity (atPhase .wdata 32 t) = atPhase .wpar 0 t := rfl
  have hidle (t : State) : enterIdle (atPhase .wpar 1 t) = enterIdle t := rfl
  have hkeep : (turnCycles trn s).ack = s.ack ∧ (turnCycles trn s).req = s.req := by
    rw [turnCycles_eq]
    exact ⟨rfl, rfl⟩
  obtain ⟨hreq', hdir', hcfg'⟩ := driven_registers trn s
  obtain ⟨c, hturn⟩ := runClock_enterTurn2_atPhase trn .ackp 3 s
  rw [runClock_add, runClock_add, runClock_add, hexit, hturn,
    exitTurn2_write (hkeep.1.trans h) (by rwa [hkeep.2]), runClock_wdata, hparity, runClock_wpar, hidle, ← hcfg']
  exact runClock_enterIdle_write trn (by rwa [hreq']) hdir'

/-- The clock cycles that follow the acknowledgement (41_swd_transfer.md R147). -/
def cyclesAfterAck (trn : Nat) (s : State) : Nat := if s.ack = 1 then 33 + trn + s.cfg.idleCycles.toNat else trn

theorem runClock_exitAck (trn : Nat) {s : State} (hdir : s.dir = .input) :
    runClock trn (cyclesAfterAck trn s) (exitAck trn (atPhase .ackp 3 s)) = afterAck trn s := by
  unfold cyclesAfterAck
  split
  · next h =>
    cases hd : s.req.direction with
    | read => rw [afterAck_read h hd, ← runClock_exitAck_read h hd hdir]
    | write =>
      have hcycles : 33 + trn + s.cfg.idleCycles.toNat = trn + 32 + 1 + s.cfg.idleCycles.toNat := by omega
      rw [afterAck_write h hd, hcycles, runClock_exitAck_write h hd]
  · next h => rw [afterAck_noData h, runClock_exitAck_noData h]

/-- What follows the acknowledgement leaves it in its register. -/
theorem afterAck_ack (trn : Nat) (s : State) : (afterAck trn s).ack = s.ack := by
  by_cases h : s.ack = 1
  · cases hd : s.req.direction with
    | read =>
      obtain ⟨v, pb, hread⟩ := readPhase_any trn s
      rw [afterAck_read h hd, hread]
      rfl
    | write => rw [afterAck_write h hd, writePhase_eq]
  · rw [afterAck_noData h, noDataPhase_eq]

/-- The clock cycles of an attempt, by its acknowledgement (41_swd_transfer.md R147). -/
theorem executeTransfer_clockCycles (trn : Nat) (req : TransferRequest) (s : State) :
    clockCycles (executeTransfer trn req s).trace - clockCycles s.trace =
      8 + trn + 3 + cyclesAfterAck trn (headerAndAck trn req s) := by
  obtain ⟨a, ha⟩ := headerAndAck_any trn req s
  have hcfg : (headerAndAck trn req s).cfg = s.cfg := by rw [ha, afterHeader]
  obtain ⟨-, -, -, -, hcount⟩ := resultOfAnAttemptByCase trn req s
  rw [hcount, executeTransfer_eq, afterAck_ack, cyclesAfterAck, hcfg]
  split <;> omega

/-- Settles O29: phase by phase up to the acknowledgement, and from it by its three cases. -/
theorem clockedTransferEqualsThePseudocode : Obligations.ClockedTransferEqualsThePseudocode := by
  intro trn req s
  obtain ⟨a, ha⟩ := headerAndAck_any trn req s
  have hdir : (headerAndAck trn req s).dir = .input := by rw [ha, afterHeader]
  dsimp only
  rw [executeTransfer_clockCycles, runClock_add, runClock_startTransfer, runClock_exitAck trn hdir, executeTransfer_eq]

/-- Settles O30: a sequence of at least one bit is one phase, and one of no bit ends where it starts. -/
theorem clockedSequenceEqualsThePseudocode : Obligations.ClockedSequenceEqualsThePseudocode := by
  intro trn n bits s
  by_cases hn : n = 0
  · subst hn
    rfl
  · have hstart : startSequence n bits s = atPhase .seq 0 (setDirection .output (latchSequence n bits s)) := if_neg hn
    rw [hstart]
    exact runClock_seq trn (setDirection .output (latchSequence n bits s)) (BitVec.toNat_pos_of_ne_zero hn)

/-! ### The machine's own steps (41_swd_transfer.md R150) -/

/-- An idle engine, or one in a phase of an attempt with cycles left to make. -/
def Clockable (s : State) : Prop := s.fsm = .idle ∨ (s.cnt < phaseLength Config.trnCycles s ∧ s.fsm ≠ .seq)

/-- In a phase with cycles left a step is one clock cycle: the acknowledgement is not complete. -/
theorem Clockable.step_eq {s : State} (h : Clockable s) (hf : s.fsm ≠ .idle) :
    step s = .next (clock Config.trnCycles s) := by
  obtain ⟨hcnt, hseq⟩ := h.resolve_left hf
  have hack : s.atAck = false := by
    by_contra hack
    simp only [State.atAck, Bool.not_eq_false, Bool.and_eq_true, decide_eq_true_eq] at hack
    simp [phaseLength, hack.1, hack.2] at hcnt
  simp [step, hf, hack, clockStep, hcnt, hseq]

theorem Exit.clockable {s t : State} (h : Exit Config.trnCycles s t) : Clockable t := by
  cases h with
  | finish res => exact .inl rfl
  | enter f par hline hcycles hseq => exact .inr ⟨hcycles, hseq⟩
  | turn f d shift par hline hcycles hseq => exact .inr ⟨hcycles, hseq⟩
  | low hdir hline hcycles => exact .inr ⟨hcycles, nofun⟩

theorem Clockable.clock {s : State} (h : Clockable s) (hf : s.fsm ≠ .idle) : Clockable (clock Config.trnCycles s) := by
  obtain ⟨hfsm, hcnt, hcount, -⟩ := phaseCycle_registers s
  obtain ⟨hlt, hseq⟩ := h.resolve_left hf
  obtain ⟨-, h⟩ | ⟨hne, h⟩ := clock_cases Config.trnCycles s <;> rw [h]
  · exact (phaseExit_exit _ (by rwa [countCycle_fsm, hfsm])).clockable
  · refine .inr ⟨?_, by rwa [countCycle_fsm, hfsm]⟩
    simp only [phaseLength, countCycle_fsm, countCycle_cfg, countCycle_seqCount, countCycle_cnt, hfsm, hcnt, hcount,
      (phaseCycle_frame s).cfg] at hlt hne ⊢
    omega

/-- A run begins with its first step. -/
theorem run_succ_of_step {M : Host.Core} {s s' : M.State} (h : M.step s = .next s') (k : Nat) :
    M.run (k + 1) s = M.run k s' := by
  rw [Host.Core.run, h]

/-- A run of the state machine is a run of the machine's own steps. -/
theorem Clockable.run_eq_runClock {s : State} (h : Clockable s) (n : Nat) :
    ∃ k, Host.Core.run core k s = .next (runClock Config.trnCycles n s) := by
  induction n generalizing s with
  | zero => exact ⟨0, rfl⟩
  | succ n ih =>
    by_cases hf : s.fsm = .idle
    · exact ⟨0, by rw [runClock_idle _ _ _ hf]; rfl⟩
    · obtain ⟨k, hk⟩ := ih (h.clock hf)
      refine ⟨k + 1, ?_⟩
      rw [run_succ_of_step (M := core) (h.step_eq hf), runClock, if_neg hf]
      exact hk

theorem startTransfer_clockable (req : TransferRequest) (s : State) : Clockable (startTransfer req s) :=
  .inr ⟨Nat.zero_lt_succ 7, nofun⟩

/-- Settles O31: the first step starts the transfer, and the steps after it are the clock cycles of its run. -/
theorem stepsOfAClockedTransferReachItsResult : Obligations.StepsOfAClockedTransferReachItsResult := by
  intro s req rest hidle hbusy hin
  have hrun := clockedTransferEqualsThePseudocode Config.trnCycles req { s with inputs := rest }
  obtain ⟨k, hk⟩ := (startTransfer_clockable req { s with inputs := rest }).run_eq_runClock
    (clockCycles (executeTransfer Config.trnCycles req { s with inputs := rest }).trace - clockCycles s.trace)
  have hstep : step s = .next (startTransfer req { s with inputs := rest }) := by
    rw [step_eq_takeInput hidle hbusy, takeInput, hin]
  exact ⟨k, (run_succ_of_step (M := core) hstep k).trans (hk.trans (congrArg _ hrun))⟩

/-! ### Write and read back (41_swd_transfer.md R156) -/

/-- The level that a symbol sets on the data line. -/
def WireSymbol.level : WireSymbol → Option Bool
  | .w b => some b
  | .low => some false
  | .out => none
  | .rel => none
  | .r _ => none
  | .z => none

/-- The levels a wire trace sets on the data line, oldest first. -/
def wireLevels (ws : List WireSymbol) : List Bool := ws.filterMap WireSymbol.level

@[simp] theorem wireLevels_cons (x : WireSymbol) (ws : List WireSymbol) :
    wireLevels (x :: ws) = x.level.toList ++ wireLevels ws := by
  cases x <;> rfl

@[simp] theorem wireLevels_append (a b : List WireSymbol) : wireLevels (a ++ b) = wireLevels a ++ wireLevels b :=
  List.filterMap_append

@[simp] theorem wireLevels_replicate_z (n : Nat) : wireLevels (List.replicate n .z) = [] := by
  simp [wireLevels, List.filterMap_replicate, WireSymbol.level]

@[simp] theorem wireLevels_map_w (bits : List Bool) : wireLevels (bits.map .w) = bits := by
  simp [wireLevels, List.filterMap_map, Function.comp_def, WireSymbol.level]

theorem dataLevels_afterWire (ws : List WireSymbol) (t : List PinEvent) :
    dataLevels (afterWire ws t) = (wireLevels ws).reverse ++ dataLevels t := by
  induction ws generalizing t with
  | nil => rfl
  | cons x ws ih =>
    rw [afterWire_cons, ih]
    cases x <;> simp [WireSymbol.events, WireSymbol.level, dataLevels]

/-- The low before the idle cycles of a write is one level, if there are any (41_swd_transfer.md R141). -/
theorem wireLevels_idle (n : BitVec 8) :
    wireLevels (if n.toNat = 0 then [] else .low :: List.replicate n.toNat .z) =
      List.replicate (if n = 0 then 0 else 1) false := by
  simp only [idleCycles_toNat_eq_zero]
  split
  · rfl
  · rw [wireLevels_cons, wireLevels_replicate_z]
    rfl

/-- The 33 levels of a write's data phase are the newest but for the low of its idle cycles (41_swd_transfer.md
R141). -/
theorem dataLevels_afterWrite (trn : Nat) (req : TransferRequest) (rest : List Bool) (s : State) :
    ∃ older, dataLevels (afterWrite trn req rest s).trace =
      List.replicate (if s.cfg.idleCycles = 0 then 0 else 1) false ++
        ((wireBits req.value ++ [parity req.value]).reverse ++ older) := by
  refine ⟨(wireLevels (headerWire trn req ackOk)).reverse ++ dataLevels s.trace, ?_⟩
  rw [afterWrite, dataLevels_afterWire, writeWire]
  simp [wireLevels_idle, WireSymbol.level]

/-- Settles O32: the levels driven are the value's bits and its parity, and a read of them checks. -/
theorem loopbackRoundTrip : Obligations.LoopbackRoundTrip := by
  intro trn p k V V' s s' rest rest' h t driven hreplay
  have ht : t = afterWrite trn ⟨p, .write, k, V⟩ rest s := executeTransfer_write h rfl
  obtain ⟨older, hlevels⟩ := dataLevels_afterWrite trn ⟨p, .write, k, V⟩ rest s
  have hdriven : driven = (wireBits V ++ [parity V]).reverse := by
    show ((dataLevels t.trace).drop _).take 33 = _
    rw [ht, hlevels, List.drop_left' List.length_replicate]
    exact List.take_left' (by simp [wireBits])
  have hanswer : s'.samples = readAnswer V (parity V) ++ rest' := by
    rw [hreplay, hdriven, List.reverse_reverse, readAnswer, List.append_assoc (ackAnswer ackOk)]
    rfl
  rw [executeTransfer_read hanswer rfl]
  exact if_pos rfl

end Sys2Proof.Machine
end

section
/-! PROOF. The dispatch family (42_dap_dispatch.md): how a packet is decoded by its length and its opcode, what every
command answers, what a step that takes a packet does, and on what an answer depends. -/

namespace Sys2Proof

/-! ### Decoding a packet by its length and its opcode -/

theorem decodePacket_badLength {n : Nat} {bytes : List Byte} (h : n = 0 ∨ 64 < n) :
    decodePacket n bytes = .error .badLength :=
  if_pos h

theorem decodePacket_unknown {op : Byte} {fields : List Byte} (hop : opcodeOf op = none) (hlen : fields.length ≤ 63) :
    decodePacket (fields.length + 1) (op :: fields) = .ok (.unknown op) := by
  have hsize : ¬(fields.length + 1 = 0 ∨ Config.packetSize < fields.length + 1) := by
    simp only [Config.packetSize]
    omega
  rw [decodePacket, if_neg hsize]
  simp only [hop]

/-- No command asks for more bytes than a packet holds (42_dap_dispatch.md R183). -/
theorem minLength_le (o : Opcode) : minLength o ≤ 6 := by cases o <;> decide

theorem decodePacket_truncated {op : Byte} {o : Opcode} {fields : List Byte} (hop : opcodeOf op = some o)
    (hshort : fields.length + 1 < minLength o) :
    decodePacket (fields.length + 1) (op :: fields) = .error .truncated := by
  have hmin := minLength_le o
  have hsize : ¬(fields.length + 1 = 0 ∨ Config.packetSize < fields.length + 1) := by
    simp only [Config.packetSize]
    omega
  rw [decodePacket, if_neg hsize]
  simp only [hop, if_pos hshort]

/-- A field inside the bytes has a value (20_memory.md R44). -/
theorem readField_isSome {bytes : List Byte} {off n : Nat} (h : off + n ≤ bytes.length) :
    (readField bytes off n).isSome = true := by
  rw [readField, if_pos h, Option.isSome_some]

theorem exists_readU8 {bytes : List Byte} {off : Nat} (h : off + 1 ≤ bytes.length) :
    ∃ v, readU8 bytes off = some v := by
  rw [← Option.isSome_iff_exists, readU8, Option.isSome_map, readField_isSome h]

theorem exists_readU16 {bytes : List Byte} {off : Nat} (h : off + 2 ≤ bytes.length) :
    ∃ v, readU16 bytes off = some v := by
  rw [← Option.isSome_iff_exists, readU16, Option.isSome_map, readField_isSome h]

theorem exists_readU32 {bytes : List Byte} {off : Nat} (h : off + 4 ≤ bytes.length) :
    ∃ v, readU32 bytes off = some v := by
  rw [← Option.isSome_iff_exists, readU32, Option.isSome_map, readField_isSome h]

/-- The command that an opcode stands for, with its operands (30_encoding.md R90). -/
def Opcode.Names : Opcode → Instr → Prop
  | .info, i => ∃ id, i = .info id
  | .hostStatus, i => ∃ t st, i = .hostStatus t st
  | .connect, i => ∃ port, i = .connect port
  | .disconnect, i => i = .disconnect
  | .xferCfg, i => ∃ idle wait matched, i = .xferCfg idle wait matched
  | .xfer, i => ∃ rq operand, i = .xfer rq operand
  | .xferBlk, i => ∃ rq count data, i = .xferBlk rq count data
  | .xferAbort, i => i = .xferAbort
  | .swjSeq, i => ∃ n data, i = .swjSeq n data
  | .writeAbort, i => i = .writeAbort
  | .delay, i => i = .delay
  | .resetTarget, i => i = .resetTarget
  | .swjPins, i => i = .swjPins
  | .swjClock, i => i = .swjClock
  | .swdCfg, i => i = .swdCfg
  | .jtagSeq, i => i = .jtagSeq
  | .jtagCfg, i => i = .jtagCfg
  | .jtagIdcode, i => i = .jtagIdcode

/-- A request of at least the minimum length holds every field of its command (42_dap_dispatch.md R183). -/
theorem assemble_of_minLength (o : Opcode) {bytes : List Byte} (h : minLength o ≤ bytes.length) :
    ∃ i, assemble o bytes = some i ∧ o.Names i := by
  cases o with
  | info =>
    obtain ⟨id, h1⟩ := exists_readU8 (off := 1) h
    exact ⟨.info id, by rw [assemble, h1]; rfl, id, rfl⟩
  | hostStatus =>
    obtain ⟨t, h1⟩ := exists_readU8 (off := 1) (Nat.le_of_succ_le h)
    obtain ⟨st, h2⟩ := exists_readU8 (off := 2) h
    exact ⟨.hostStatus t st, by simp only [assemble, h1, h2], t, st, rfl⟩
  | connect =>
    obtain ⟨port, h1⟩ := exists_readU8 (off := 1) h
    exact ⟨.connect port, by rw [assemble, h1]; rfl, port, rfl⟩
  | xferCfg =>
    have h : 6 ≤ bytes.length := h
    obtain ⟨idle, h1⟩ := exists_readU8 (bytes := bytes) (off := 1) (by omega)
    obtain ⟨wait, h2⟩ := exists_readU16 (bytes := bytes) (off := 2) (by omega)
    obtain ⟨matched, h3⟩ := exists_readU16 (off := 4) h
    exact ⟨.xferCfg idle wait matched, by simp only [assemble, h1, h2, h3], idle, wait, matched, rfl⟩
  | xfer =>
    have h : 6 ≤ bytes.length := h
    obtain ⟨rq, h1⟩ := exists_readU8 (bytes := bytes) (off := 1) (by omega)
    obtain ⟨operand, h2⟩ := exists_readU32 (off := 2) h
    exact ⟨.xfer rq operand, by simp only [assemble, h1, h2], rq, operand, rfl⟩
  | xferBlk =>
    have h : 4 ≤ bytes.length := h
    obtain ⟨rq, h1⟩ := exists_readU8 (bytes := bytes) (off := 1) (by omega)
    obtain ⟨count, h2⟩ := exists_readU16 (off := 2) h
    refine ⟨.xferBlk rq count ((bytes.drop 4).take (blockByteCount rq count)), ?_, rq, count, _, rfl⟩
    simp only [assemble, h1, h2]
  | swjSeq =>
    obtain ⟨n, h1⟩ := exists_readU8 (off := 1) h
    exact ⟨.swjSeq n _, by rw [assemble, h1]; rfl, n, _, rfl⟩
  | _ =>
    -- a command without operands
    exact ⟨_, rfl, rfl⟩

/-- A request whose length is inside its command's bounds is decoded to that command (42_dap_dispatch.md R183, R192). -/
theorem decodePacket_of_minLength {op : Byte} {o : Opcode} {fields : List Byte} (hop : opcodeOf op = some o)
    (hmin : minLength o ≤ fields.length + 1) (hlen : fields.length ≤ 63) :
    ∃ i, decodePacket (fields.length + 1) (op :: fields) = .ok i ∧ o.Names i := by
  obtain ⟨i, hi, hnames⟩ := assemble_of_minLength o (bytes := op :: fields) hmin
  exact ⟨i, Laws.decodePacket_of_assemble op fields o i hlen hop hmin hi, hnames⟩

end Sys2Proof

namespace Sys2Proof.Machine

/-! ### The bytes of a response -/

/-- Every byte below `n` has a value (20_memory.md R42). -/
def Memory.Filled (m : Memory) (n : Nat) : Prop := ∀ k < n, (Memory.read m k).isSome = true

theorem Memory.bytes_succ (m : Memory) (n : Nat) :
    Memory.bytes m (n + 1) = Memory.bytes m n ++ (Memory.read m n).toList := by
  rw [Memory.bytes, List.range_succ, List.filterMap_append, Memory.bytes]
  cases h : Memory.read m n <;> simp [h]

theorem Memory.Filled.length_bytes {m : Memory} {n : Nat} (h : Memory.Filled m n) : (Memory.bytes m n).length = n := by
  induction n with
  | zero => rfl
  | succ n ih =>
    rw [Memory.bytes_succ, List.length_append, ih fun k hk => h k (Nat.lt_succ_of_lt hk), Option.length_toList,
      if_pos (h n (Nat.lt_succ_self n))]

/-- Byte `k` of a response without gaps is the byte at offset `k`. -/
theorem Memory.Filled.getElem?_bytes {m : Memory} {n k : Nat} (h : Memory.Filled m n) (hk : k < n) :
    (Memory.bytes m n)[k]? = Memory.read m k := by
  induction n with
  | zero => exact absurd hk (Nat.not_lt_zero k)
  | succ n ih =>
    have hn : Memory.Filled m n := fun j hj => h j (Nat.lt_succ_of_lt hj)
    rw [Memory.bytes_succ]
    obtain hlt | rfl := Nat.lt_succ_iff_lt_or_eq.1 hk
    · rw [List.getElem?_append_left (by rwa [hn.length_bytes]), ih hn hlt]
    · rw [List.getElem?_append_right (by rw [hn.length_bytes]), hn.length_bytes, Nat.sub_self]
      cases Memory.read m k <;> rfl

theorem read_respWrite_below {off n k : Nat} (v : Nat) (s : State) (hk : k < off) (hfit : off + n ≤ 64) :
    Memory.read (s.respWrite off n v).respBuf k = Memory.read s.respBuf k := by
  rw [read_respWrite off n v k s hfit, if_neg (by omega)]

/-! ### The registers that `RespWrite` leaves -/

@[simp] theorem respWrite_res (off n v : Nat) (s : State) : (s.respWrite off n v).res = s.res := by rw [respWrite_eq]
@[simp] theorem respWrite_fsm (off n v : Nat) (s : State) : (s.respWrite off n v).fsm = s.fsm := by rw [respWrite_eq]

/-! ### What a command that is not rejected answers -/

/-- Whether a command that was not rejected succeeded: a Transfer by its final acknowledgement, a TransferBlock by its
progress, any other command always (42_dap_dispatch.md R190). -/
def succeeded : Instr → State → Bool
  | .xfer _ _, t => t.res.ack == resOk
  | .xferBlk _ count _, t => !(t.doneCount < count.toNat : Bool)
  | _, _ => true

/-- The answer of a command that was not rejected: no cause label, the opcode in byte 0, a response without gaps, and
`OK_OUT` by success (42_dap_dispatch.md R184, R188 to R190). -/
structure Answered (i : Instr) (t : State) : Prop where
  cause : t.cause = none
  echo : Memory.read t.respBuf 0 = (encode i).head?
  pos : 1 ≤ t.respLen
  filled : Memory.Filled t.respBuf t.respLen
  okOut : t.okOut = succeeded i t

theorem ofBytes_filled (bs : List Byte) : Memory.Filled (Memory.ofBytes 0 bs) bs.length := by
  intro k hk
  rw [read_ofBytes, if_pos (Nat.zero_le k), Nat.sub_zero, List.getElem?_eq_getElem hk, Option.isSome_some]

/-- An answer whose response is written out, from the opcode on. -/
theorem Answered.of_bytes {i : Instr} {t : State} {op : Byte} (bs : List Byte) (hop : (encode i).head? = some op)
    (hbuf : t.respBuf = Memory.ofBytes 0 (op :: bs)) (hlen : t.respLen = bs.length + 1) (hcause : t.cause = none)
    (hok : t.okOut = succeeded i t) : Answered i t where
  cause := hcause
  echo := by rw [hbuf, hop]; rfl
  pos := by omega
  filled := by rw [hbuf, hlen]; exact ofBytes_filled (op :: bs)
  okOut := hok

/-- Bytes written where a response without gaps ends make it longer (20_memory.md R45). -/
theorem respWriteBytes_ofBytes {off : Nat} {s : State} (pre bs : List Byte) (h : s.respBuf = Memory.ofBytes 0 pre)
    (hoff : pre.length = off) (hfit : off + bs.length ≤ 64) :
    s.respWriteBytes off bs = { s with respBuf := Memory.ofBytes 0 (pre ++ bs) } := by
  subst hoff
  rw [respWriteBytes_eq, respWriteBytes_append pre bs s h hfit]

theorem respWrite_ofBytes {off n : Nat} (v : Nat) {s : State} (pre : List Byte) (h : s.respBuf = Memory.ofBytes 0 pre)
    (hoff : pre.length = off) (hfit : off + n ≤ 64) :
    s.respWrite off n v = { s with respBuf := Memory.ofBytes 0 (pre ++ leBytes n v) } :=
  respWriteBytes_ofBytes pre (leBytes n v) h hoff (by rwa [leBytes_length])

/-- Info's answer: the echo, the length of the value, the value (43_dap_config_info.md R210). -/
theorem infoCommand_eq (table : Byte → Option Config.InfoValue) (id : Byte) (s : State) :
    infoCommand table id s =
      { s with
        okOut := true, cause := none
        respBuf := Memory.ofBytes 0 (0x00 :: BitVec.ofNat 8 (infoValue table id).length :: infoValue table id), rp := 2
        wp := 2 + (infoValue table id).length, respLen := 2 + (infoValue table id).length } := by
  have hfit : 2 + (infoValue table id).length ≤ 64 := Nat.add_le_add_left (infoValue_length_le table id) 2
  unfold infoCommand
  dsimp only
  rw [respWrite_ofBytes (off := 1) _ [0x00] rfl rfl (by decide),
    respWriteBytes_ofBytes (off := 2) [0x00, BitVec.ofNat 8 (infoValue table id).length] _ rfl rfl hfit]
  rfl

/-- The value bytes of a Transfer's response: none but for a read that ended OK (44_dap_transfer.md R245). -/
def valueBytes (d : Direction) (res : TransferResult) : List Byte :=
  ((surfacedValue d res).map fun v => leBytes 4 v.toNat).getD []

/-- Transfer's answer after the echo: the acknowledgement, then the value bytes (44_dap_transfer.md R245). -/
theorem transferResponse_eq (d : Direction) {op : Byte} {s : State} (h : s.respBuf = Memory.ofBytes 0 [op]) :
    transferResponse d s =
      { s with
        respBuf := Memory.ofBytes 0 (op :: s.res.ack.setWidth 8 :: valueBytes d s.res)
        wp := 2 + (valueBytes d s.res).length, okOut := s.okOut && s.res.ack == resOk } := by
  have hack : leBytes 1 s.res.ack.toNat = [s.res.ack.setWidth 8] := congrArg (fun b => [b]) (BitVec.ofNat_toNat ..)
  unfold transferResponse valueBytes
  dsimp only
  rw [respWrite_ofBytes (off := 1) _ [op] h rfl (by decide), hack]
  cases surfacedValue d s.res with
  | none => rfl
  | some v =>
    dsimp only
    rw [respWrite_ofBytes (off := 2) _ [op, s.res.ack.setWidth 8] rfl rfl (by decide)]
    rfl

/-- Transfer's whole next state: the state after its attempts, and its answer (44_dap_transfer.md R246). -/
theorem transferCommand_eq (trn : Nat) (rq : Byte) (operand : Word) (s : State) :
    let t := transferWithRetry trn (requestOf rq operand) { beginCommand 0x05 s with rp := 6 }
    transferCommand trn rq operand s =
      { t with
        respBuf := Memory.ofBytes 0 (0x05 :: t.res.ack.setWidth 8 :: valueBytes (rqDirection rq) t.res)
        wp := 2 + (valueBytes (rqDirection rq) t.res).length
        respLen := 2 + (valueBytes (rqDirection rq) t.res).length, okOut := t.res.ack == resOk } := by
  intro t
  have hframe : EngineFrame { beginCommand 0x05 s with rp := 6 } t := transferWithRetry_frame ..
  have hok : t.okOut = true := hframe.okOut
  show endCommand (transferResponse (rqDirection rq) t) = _
  rw [transferResponse_eq (rqDirection rq) (op := 0x05) hframe.respBuf, hok, Bool.true_and]
  rfl

theorem transferCommand_answered (trn : Nat) (rq : Byte) (operand : Word) (s : State) :
    Answered (.xfer rq operand) (transferCommand trn rq operand s) := by
  have hframe := transferWithRetry_frame trn (requestOf rq operand) { beginCommand 0x05 s with rp := 6 }
  rw [transferCommand_eq]
  exact .of_bytes (op := 0x05) _ rfl rfl (Nat.add_comm ..) hframe.cause rfl

/-- The final acknowledgement of a Transfer is byte 1 of its response (44_dap_transfer.md R245). -/
theorem transferCommand_response_ack (trn : Nat) (rq : Byte) (operand : Word) (s : State) :
    (transferCommand trn rq operand s).response[1]? =
      some ((transferCommand trn rq operand s).res.ack.setWidth 8) := by
  have hfilled := (transferCommand_answered trn rq operand s).filled
  have hlen : 1 < (transferCommand trn rq operand s).respLen := by
    rw [transferCommand_eq]
    exact Nat.lt_of_lt_of_le Nat.one_lt_two (Nat.le_add_right 2 _)
  rw [State.response, hfilled.getElem?_bytes hlen, transferCommand_eq]
  rfl

/-! ### The retry loop ends with an attempt -/

theorem retryLoop_eq_attempt (trn : Nat) (req : TransferRequest) (more : Nat) (s : State) :
    ∃ u, retryLoop trn req more s = attempt trn req u := by
  induction more generalizing s with
  | zero => exact ⟨s, rfl⟩
  | succ more ih =>
    rw [retryLoop_succ]
    split
    · exact ih _
    · exact ⟨s, rfl⟩

/-- What the retry loop reports is what its last attempt ended with (44_dap_transfer.md R243). -/
theorem transferWithRetry_eq_attempt (trn : Nat) (req : TransferRequest) (s : State) :
    ∃ u, transferWithRetry trn req s = attempt trn req u :=
  retryLoop_eq_attempt ..

theorem attempt_fsm (trn : Nat) (req : TransferRequest) (s : State) : (attempt trn req s).fsm = .idle := by
  obtain ⟨-, -, -, hidle, -⟩ := resultOfAnAttemptByCase trn req s
  exact hidle

theorem transferWithRetry_fsm (trn : Nat) (req : TransferRequest) (s : State) :
    (transferWithRetry trn req s).fsm = .idle := by
  obtain ⟨u, hu⟩ := transferWithRetry_eq_attempt trn req s
  rw [hu, attempt_fsm]

/-- A read that ended OK has a value (10_state.md R19). -/
theorem transferWithRetry_value {trn : Nat} {req : TransferRequest} {s : State} (hd : req.direction = .read)
    (hack : (transferWithRetry trn req s).res.ack = resOk) :
    ∃ v, (transferWithRetry trn req s).res.value = some v := by
  obtain ⟨u, hu⟩ := transferWithRetry_eq_attempt trn req s
  rw [hu] at hack ⊢
  obtain ⟨-, hvalue, -⟩ := resultOfAnAttemptByCase trn req u
  exact Option.isSome_iff_exists.1 (hvalue.2 ⟨hd, hack⟩)

/-! ### The loop of TransferBlock -/

/-- A sub-transfer: its word is loaded and its transfer run (44_dap_transfer.md R252). -/
def subTransfer (trn : Nat) (req : TransferRequest) (data : List Byte) (s : State) : State :=
  transferWithRetry trn (loadBlockWord req data s).req (loadBlockWord req data s)

/-- One turn of the loop of TransferBlock (44_dap_transfer.md R252, R255). -/
theorem blockLoop_succ (trn : Nat) (req : TransferRequest) (data : List Byte) (more : Nat) (ack : BitVec 4)
    (s : State) : blockLoop trn req data (more + 1) ack s =
      if (subTransfer trn req data s).res.ack = resOk then
        blockLoop trn req data more (subTransfer trn req data s).res.ack
          (storeBlockWord req.direction (subTransfer trn req data s))
      else ((subTransfer trn req data s).res.ack, subTransfer trn req data s) := rfl

theorem loadBlockWord_direction (req : TransferRequest) (data : List Byte) (s : State) :
    (loadBlockWord req data s).req.direction = req.direction := by
  unfold loadBlockWord
  split <;> rfl

/-- A sub-transfer leaves the response, the outcome so far and the count of sub-transfers to its store. -/
theorem subTransfer_keeps (trn : Nat) (req : TransferRequest) (data : List Byte) (s : State) :
    let t := subTransfer trn req data s
    t.respBuf = s.respBuf ∧ t.doneCount = s.doneCount ∧ t.okOut = s.okOut ∧ t.cause = s.cause := by
  have hload : (loadBlockWord req data s).okOut = s.okOut ∧ (loadBlockWord req data s).cause = s.cause := by
    unfold loadBlockWord
    split <;> exact ⟨rfl, rfl⟩
  have hrun := transferWithRetry_frame trn (loadBlockWord req data s).req (loadBlockWord req data s)
  obtain ⟨hbuf, hcount⟩ := subTransfer_respBuf_doneCount trn req data s
  exact ⟨hbuf, hcount, hrun.okOut.trans hload.1, hrun.cause.trans hload.2⟩

theorem subTransfer_value {trn : Nat} {req : TransferRequest} {data : List Byte} {s : State}
    (hd : req.direction = .read) (hack : (subTransfer trn req data s).res.ack = resOk) :
    ∃ v, (subTransfer trn req data s).res.value = some v :=
  transferWithRetry_value ((loadBlockWord_direction req data s).trans hd) hack

/-- What every turn of the loop keeps, by the number of sub-transfers still to make, the loop keeps. -/
theorem blockLoop_keeps {trn : Nat} {req : TransferRequest} {data : List Byte} (P : Nat → State → Prop)
    (hrun : ∀ n s, P n s → P n (subTransfer trn req data s))
    (hstore : ∀ n s, P (n + 1) s → s.res.ack = resOk → (req.direction = .read → ∃ v, s.res.value = some v) →
      P n (storeBlockWord req.direction s))
    (more : Nat) (ack : BitVec 4) (s : State) (h : P more s) : ∃ n, P n (blockLoop trn req data more ack s).2 := by
  induction more generalizing ack s with
  | zero => exact ⟨0, h⟩
  | succ more ih =>
    rw [blockLoop_succ]
    split
    · exact ih _ _ (hstore _ _ (hrun _ _ h) ‹_› fun hd => subTransfer_value hd ‹_›)
    · exact ⟨more + 1, hrun _ _ h⟩

theorem storeBlockWord_read {s : State} {v : Word} (hack : s.res.ack = resOk) (hv : s.res.value = some v) :
    storeBlockWord .read s =
      { s with
        respBuf := (s.respWrite (4 + 4 * s.doneCount) 4 v.toNat).respBuf, doneCount := s.doneCount + 1 } := by
  have hsurfaced : surfacedValue .read s.res = some v := (if_pos ⟨rfl, hack⟩).trans hv
  rw [storeBlockWord, hsurfaced]
  dsimp only
  rw [respWrite_eq]

@[simp] theorem storeBlockWord_res (d : Direction) (s : State) : (storeBlockWord d s).res = s.res := by
  unfold storeBlockWord
  split
  · exact respWrite_res ..
  · rfl

@[simp] theorem storeBlockWord_fsm (d : Direction) (s : State) : (storeBlockWord d s).fsm = s.fsm := by
  unfold storeBlockWord
  split
  · exact respWrite_fsm ..
  · rfl

/-- The last acknowledgement of a block is that of its last sub-transfer (44_dap_transfer.md R253). -/
theorem blockLoop_ack {trn : Nat} {req : TransferRequest} {data : List Byte} {more : Nat} {ack : BitVec 4} {s : State}
    (h : more = 0 → ack = s.res.ack) :
    (blockLoop trn req data more ack s).1 = (blockLoop trn req data more ack s).2.res.ack := by
  induction more generalizing ack s with
  | zero => exact h rfl
  | succ more ih =>
    rw [blockLoop_succ]
    split
    · exact ih fun _ => by rw [storeBlockWord_res]
    · rfl

/-- The state of a block with `more` sub-transfers to make: not rejected, nothing failed, the opcode echoed, and for a
read the values of the completed sub-transfers from byte 4 on, with room for the rest (44_dap_transfer.md R251, R253). -/
structure BlockProgress (d : Direction) (more : Nat) (s : State) : Prop where
  cause : s.cause = none
  okOut : s.okOut = true
  echo : Memory.read s.respBuf 0 = some 0x06
  fits : d = .read → s.doneCount + more ≤ 15
  filled : d = .read → ∀ k, 4 ≤ k → k < 4 + 4 * s.doneCount → (Memory.read s.respBuf k).isSome = true

theorem BlockProgress.store {d : Direction} {more : Nat} {s : State} (h : BlockProgress d (more + 1) s)
    (hack : s.res.ack = resOk) (hvalue : d = .read → ∃ v, s.res.value = some v) :
    BlockProgress d more (storeBlockWord d s) := by
  cases d with
  | write => exact ⟨h.cause, h.okOut, h.echo, nofun, nofun⟩
  | read =>
    obtain ⟨v, hv⟩ := hvalue rfl
    have hfits := h.fits rfl
    have hroom : 4 + 4 * s.doneCount + 4 ≤ 64 := by omega
    rw [storeBlockWord_read hack hv]
    refine ⟨h.cause, h.okOut, ?_, fun _ => ?_, fun _ k h4 hk => ?_⟩
    · exact (read_respWrite_below v.toNat s (by omega) hroom).trans h.echo
    · dsimp only
      omega
    · dsimp only at hk ⊢
      rw [read_respWrite _ _ _ _ _ hroom]
      split
      · rw [leBytes_getElem? _ _ _ (by omega), Option.isSome_some]
      · exact h.filled rfl k h4 (by omega)

theorem blockLoop_progress {trn : Nat} {req : TransferRequest} {data : List Byte} {more : Nat} {ack : BitVec 4}
    {s : State} (h : BlockProgress req.direction more s) :
    ∃ n, BlockProgress req.direction n (blockLoop trn req data more ack s).2 := by
  refine blockLoop_keeps (BlockProgress req.direction) (fun n s h => ?_) (fun n s h => h.store) more ack s h
  obtain ⟨hbuf, hcount, hok, hcause⟩ := subTransfer_keeps trn req data s
  exact ⟨hcause.trans h.cause, hok.trans h.okOut, by rw [hbuf]; exact h.echo, by rw [hcount]; exact h.fits,
    by rw [hcount, hbuf]; exact h.filled⟩

/-- What the response of TransferBlock reads: the progress in bytes 1 and 2, the acknowledgement in byte 3, and the bytes
of the loop elsewhere (44_dap_transfer.md R253). -/
theorem read_blockResponse (d : Direction) (count : Nat) (ack : BitVec 4) (s : State) (k : Nat) :
    Memory.read (blockResponse d count ack s).respBuf k =
      if k = 3 then some (ack.setWidth 8)
      else if k = 1 ∨ k = 2 then (leBytes 2 s.doneCount)[k - 1]? else Memory.read s.respBuf k := by
  show Memory.read ((s.respWrite 1 2 s.doneCount).respWrite 3 1 ack.toNat).respBuf k = _
  rw [read_respWrite 3 1 _ _ _ (by decide), read_respWrite 1 2 _ _ _ (by decide)]
  by_cases h3 : k = 3
  · subst h3
    exact congrArg some (BitVec.ofNat_toNat ..)
  · rw [if_neg (by omega), if_neg h3]
    exact if_congr (by omega) rfl rfl

/-- The response of TransferBlock has no gaps: its four bytes of header, and the values of a read after them. -/
theorem blockResponse_filled {d : Direction} {more : Nat} (count : Nat) (ack : BitVec 4) {s : State}
    (h : BlockProgress d more s) :
    Memory.Filled (blockResponse d count ack s).respBuf (blockResponse d count ack s).wp := by
  intro k hk
  rw [read_blockResponse]
  split
  · rfl
  · split
    · rw [List.getElem?_eq_getElem (by rw [leBytes_length]; omega), Option.isSome_some]
    · by_cases hk0 : k = 0
      · rw [hk0, h.echo, Option.isSome_some]
      · cases d with
        | write =>
          have hk : k < 4 := hk
          omega
        | read => exact h.filled rfl k (by omega) hk

/-- The response of TransferBlock leaves what it reports. -/
theorem blockResponse_keeps (d : Direction) (count : Nat) (ack : BitVec 4) (s : State) :
    (blockResponse d count ack s).cause = s.cause ∧ (blockResponse d count ack s).doneCount = s.doneCount ∧
      (blockResponse d count ack s).res = s.res ∧ (blockResponse d count ack s).fsm = s.fsm := by
  unfold blockResponse
  rw [respWrite_eq 3, respWrite_eq 1]
  exact ⟨rfl, rfl, rfl, rfl⟩

theorem four_le_blockResponse_wp (d : Direction) (count : Nat) (ack : BitVec 4) (s : State) :
    4 ≤ (blockResponse d count ack s).wp := by
  cases d with
  | read => exact Nat.le_add_right 4 _
  | write => exact Nat.le_refl 4

/-- The state in which the loop of a block starts (44_dap_transfer.md R256). -/
def blockStart (rq : Byte) (s : State) : State :=
  { beginCommand 0x06 s with rp := 4, doneCount := 0, req := requestOf rq s.req.value }

/-- The end of the loop of a block: its last acknowledgement and its state (44_dap_transfer.md R256). -/
def blockEnd (trn : Nat) (rq : Byte) (count : BitVec 16) (data : List Byte) (s : State) : BitVec 4 × State :=
  blockLoop trn (requestOf rq s.req.value) data count.toNat 0 (blockStart rq s)

theorem blockCommand_eq (trn : Nat) (rq : Byte) (count : BitVec 16) (data : List Byte) (s : State) :
    blockCommand trn rq count data s =
      endCommand (blockResponse (rqDirection rq) count.toNat (blockEnd trn rq count data s).1
        (blockEnd trn rq count data s).2) := rfl

theorem blockEnd_progress (trn : Nat) {rq : Byte} {count : BitVec 16} {data : List Byte} (s : State)
    (h : blockCheck rq count data = none) :
    ∃ n, BlockProgress (rqDirection rq) n (blockEnd trn rq count data s).2 := by
  refine blockLoop_progress (req := requestOf rq s.req.value) ⟨rfl, rfl, rfl, fun hd => ?_, fun _ k h4 hk => ?_⟩
  · have hfit := blockCheck_read h hd
    show 0 + count.toNat ≤ 15
    omega
  · exact absurd hk (Nat.not_lt.2 h4)

theorem blockCommand_answered (trn : Nat) {rq : Byte} {count : BitVec 16} {data : List Byte} (s : State)
    (h : blockCheck rq count data = none) :
    Answered (.xferBlk rq count data) (blockCommand trn rq count data s) := by
  obtain ⟨n, hprogress⟩ := blockEnd_progress trn s h
  rw [blockCommand_eq]
  generalize blockEnd trn rq count data s = r at hprogress
  obtain ⟨hcause, hdone, -, -⟩ := blockResponse_keeps (rqDirection rq) count.toNat r.1 r.2
  have hok : (blockResponse (rqDirection rq) count.toNat r.1 r.2).okOut =
      (r.2.okOut && !(r.2.doneCount < count.toNat : Bool)) := rfl
  rw [hprogress.okOut, Bool.true_and, ← hdone] at hok
  exact
    { cause := hcause.trans hprogress.cause
      echo := (read_blockResponse (rqDirection rq) count.toNat r.1 r.2 0).trans hprogress.echo
      pos := (by decide : 1 ≤ 4).trans (four_le_blockResponse_wp _ count.toNat r.1 r.2)
      filled := blockResponse_filled count.toNat r.1 hprogress
      okOut := hok }

/-- The last acknowledgement of a TransferBlock is byte 3 of its response (44_dap_transfer.md R253). -/
theorem blockCommand_response_ack (trn : Nat) {rq : Byte} {count : BitVec 16} {data : List Byte} (s : State)
    (h : blockCheck rq count data = none) (hcount : 0 < count.toNat) :
    (blockCommand trn rq count data s).response[3]? =
      some ((blockCommand trn rq count data s).res.ack.setWidth 8) := by
  have hfilled := (blockCommand_answered trn s h).filled
  have hack : (blockEnd trn rq count data s).1 = (blockEnd trn rq count data s).2.res.ack :=
    blockLoop_ack fun h0 => absurd h0 (Nat.ne_of_gt hcount)
  have hlen : 3 < (blockCommand trn rq count data s).respLen :=
    four_le_blockResponse_wp (rqDirection rq) count.toNat (blockEnd trn rq count data s).1 _
  rw [State.response, hfilled.getElem?_bytes hlen, blockCommand_eq]
  generalize blockEnd trn rq count data s = r at hack
  obtain ⟨-, -, hres, -⟩ := blockResponse_keeps (rqDirection rq) count.toNat r.1 r.2
  have hlast : r.1 = (blockResponse (rqDirection rq) count.toNat r.1 r.2).res.ack := by rw [hres, hack]
  have hread := read_blockResponse (rqDirection rq) count.toNat r.1 r.2 3
  exact hread.trans (congrArg (fun a : BitVec 4 => some (a.setWidth 8)) hlast)

/-! ### Every command answers -/

theorem rqReserved_eq_false {rq : Byte} (h : rq &&& 0xF0#8 = 0) : rqReserved rq = false := by
  rw [rqReserved, bne_eq_false_iff_eq]
  refine BitVec.eq_of_getLsbD_eq fun i hi => ?_
  have hbit : (rq &&& 0xF0#8).getLsbD (4 + i) = false := by
    rw [h]
    exact BitVec.getLsbD_zero
  interval_cases i <;> simpa using hbit

theorem exec_xfer_eq {rq : Byte} (h : rqReserved rq = false) (operand : Word) (s : State) :
    exec (.xfer rq operand) s = .next (transferCommand Config.trnCycles rq operand s) := by
  rw [exec, execXfer, if_neg (by simp [h])]

theorem exec_xferBlk_eq {rq : Byte} {count : BitVec 16} {data : List Byte} (h : blockCheck rq count data = none)
    (s : State) : exec (.xferBlk rq count data) s = .next (blockCommand Config.trnCycles rq count data s) := by
  rw [exec, execXferBlk, h]

theorem exec_xferBlk_rejected {rq : Byte} {count : BitVec 16} {data : List Byte} {c : ErrorCause}
    (h : blockCheck rq count data = some c) (s : State) :
    exec (.xferBlk rq count data) s = .next (errorResponse c s) := by
  rw [exec, execXferBlk, h]

theorem exec_swjSeq_eq {n : Byte} {data : List Byte} (h : ¬data.length < swjByteCount n) (s : State) :
    exec (.swjSeq n data) s = .next (sequenceCommand n data s) := by
  rw [exec, execSwjSeq, if_neg h]

/-- SWJ_Sequence's whole next state (44_dap_transfer.md R261). -/
theorem sequenceCommand_eq (n : Byte) (data : List Byte) (s : State) :
    sequenceCommand n data s =
      { afterSequence (BitVec.ofNat 32 (swjBitCount n)) data s with
        okOut := true, cause := none, respBuf := Memory.ofBytes 0 [0x12, 0x00], rp := 2 + swjByteCount n, wp := 2
        respLen := 2 } := by
  unfold sequenceCommand
  rw [rawSequenceDrivesItsBits]
  rfl

/-- Every command completes: it is rejected, or it answers (42_dap_dispatch.md R187). -/
theorem exec_packet_answer {i : Instr} (hi : i.wordPort = .packet) (s : State) :
    ∃ t, exec i s = .next t ∧ ((∃ c, t = errorResponse c s) ∨ Answered i t) := by
  cases i <;> try contradiction
  case info id =>
    refine ⟨_, rfl, .inr ?_⟩
    rw [infoCommand_eq]
    exact .of_bytes (op := 0x00) _ rfl rfl (Nat.add_comm ..) rfl rfl
  case hostStatus => exact ⟨_, rfl, .inr (.of_bytes (op := 0x01) [0x00] rfl rfl rfl rfl rfl)⟩
  case connect port =>
    exact ⟨_, rfl, .inr (.of_bytes (op := 0x02) [BitVec.ofNat 8 (connectResult port).toNat] rfl rfl rfl rfl rfl)⟩
  case disconnect => exact ⟨_, rfl, .inr (.of_bytes (op := 0x03) [0x00] rfl rfl rfl rfl rfl)⟩
  case xferCfg => exact ⟨_, rfl, .inr (.of_bytes (op := 0x04) [0x00] rfl rfl rfl rfl rfl)⟩
  case xferAbort => exact ⟨_, rfl, .inr (.of_bytes (op := 0x07) [] rfl rfl rfl rfl rfl)⟩
  case xfer rq operand =>
    cases h : rqReserved rq with
    | true => exact ⟨_, if_pos h, .inl ⟨_, rfl⟩⟩
    | false => exact ⟨_, exec_xfer_eq h operand s, .inr (transferCommand_answered ..)⟩
  case xferBlk rq count data =>
    cases h : blockCheck rq count data with
    | some c => exact ⟨_, exec_xferBlk_rejected h s, .inl ⟨c, rfl⟩⟩
    | none => exact ⟨_, exec_xferBlk_eq h s, .inr (blockCommand_answered _ s h)⟩
  case swjSeq n data =>
    by_cases h : data.length < swjByteCount n
    · exact ⟨_, if_pos h, .inl ⟨_, rfl⟩⟩
    · refine ⟨_, exec_swjSeq_eq h s, .inr ?_⟩
      rw [sequenceCommand_eq]
      exact .of_bytes (op := 0x12) [0x00] rfl rfl rfl rfl rfl
  all_goals exact ⟨_, rfl, .inl ⟨_, rfl⟩⟩

theorem Answered.length_response {i : Instr} {t : State} (h : Answered i t) : t.response.length = t.respLen :=
  h.filled.length_bytes

/-- Settles O49: a rejection is one byte, and an answer has no gaps up to its cursor, which stays inside the buffer. -/
theorem responseLengthStaysInsideTheBuffer : Obligations.ResponseLengthStaysInsideTheBuffer := by
  intro i s hi
  obtain ⟨t, ht, hanswer⟩ := exec_packet_answer hi s
  obtain ⟨hwf, hle⟩ := exec_packet_fits hi ht
  refine ⟨t, ht, ?_, hle, hwf, ?_⟩
  · obtain ⟨c, rfl⟩ | hanswer := hanswer
    · exact Nat.le_refl 1
    · exact hanswer.pos
  · obtain ⟨c, rfl⟩ | hanswer := hanswer
    · rfl
    · exact hanswer.length_response

theorem succeeded_eq_false_iff (i : Instr) (t : State) : succeeded i t = false ↔
    (∃ rq v, i = .xfer rq v ∧ t.res.ack ≠ 1) ∨
      ∃ rq count data, i = .xferBlk rq count data ∧ t.doneCount < count.toNat := by
  cases i <;> simp [succeeded, resOk]

/-- Settles O51: a rejection clears `OK_OUT`, and an answer sets it by the command's success. -/
theorem statusOutputSaysWhetherItFailed : Obligations.StatusOutputSaysWhetherItFailed := by
  intro i s t hi ht
  obtain ⟨t', ht', hanswer⟩ := exec_packet_answer hi s
  cases ht.symm.trans ht'
  obtain ⟨c, rfl⟩ | hanswer := hanswer
  · exact ⟨fun _ => .inl (Option.some_ne_none c), fun _ => rfl⟩
  · rw [hanswer.okOut, hanswer.cause, succeeded_eq_false_iff]
    exact (or_iff_right (absurd rfl)).symm

/-! ### A step that takes a packet -/

theorem Ready.step_eq {s : State} {bytes : List Byte} {rest : List Input} (h : Ready s bytes rest) :
    step s = processCommand (acceptPacket bytes rest s) := by
  obtain ⟨hidle, hbusy, hin⟩ := h
  rw [step_eq_takeInput hidle hbusy, takeInput, hin]

/-- A packet that does not decode is answered by the dispatcher itself (42_dap_dispatch.md R193). -/
theorem Ready.step_of_error {s : State} {bytes : List Byte} {rest : List Input} {e : DecodeError}
    (h : Ready s bytes rest) (he : decodePacket bytes.length bytes = .error e) :
    step s = .next (returnToHost (errorResponse (packetCause e) (acceptPacket bytes rest s))) := by
  rw [h.step_eq, processCommand, fetchPacket_acceptPacket, he]

/-- A packet that decodes is run by its handler, which returns to the host (42_dap_dispatch.md R184, R193). -/
theorem Ready.step_of_ok {s t : State} {bytes : List Byte} {rest : List Input} {i : Instr} (h : Ready s bytes rest)
    (hi : decodePacket bytes.length bytes = .ok i) (ht : exec i (acceptPacket bytes rest s) = .next t) :
    step s = .next (returnToHost t) := by
  rw [h.step_eq, processCommand, fetchPacket_acceptPacket, hi]
  simp only [ht]

/-- Settles O10: the packet at the head of the inputs is the one that is decoded and run. -/
theorem stepRunsTheDecodedPacket : Obligations.StepRunsTheDecodedPacket := by
  intro s bytes rest i hready hi
  have hfetch : (acceptPacket bytes rest s).fetchPacket = .ok i := by
    rw [State.fetchPacket, acceptPacket_requestBytes, acceptPacket_reqLen, hi]
  cases hexec : exec i (acceptPacket bytes rest s) <;> simp only [hready.step_eq, processCommand, hfetch, hexec]

/-- What a step answers to a packet: the response of a rejection, or of the handler of the packet's command. -/
theorem Ready.answer {s : State} {bytes : List Byte} {rest : List Input} (h : Ready s bytes rest) :
    ∃ t, step s = .next (returnToHost t) ∧
      ((∃ c, t = errorResponse c (acceptPacket bytes rest s)) ∨
        ∃ i, decodePacket bytes.length bytes = .ok i ∧ exec i (acceptPacket bytes rest s) = .next t ∧ Answered i t) := by
  cases hdecode : decodePacket bytes.length bytes with
  | error e => exact ⟨_, h.step_of_error hdecode, .inl ⟨_, rfl⟩⟩
  | ok i =>
    obtain ⟨-, hport, -⟩ := decodedPacketBeginsWithItsEncoding bytes i hdecode
    obtain ⟨t, ht, hanswer⟩ := exec_packet_answer hport (acceptPacket bytes rest s)
    exact ⟨t, h.step_of_ok hdecode ht, hanswer.imp_right fun ha => ⟨i, rfl, ht, ha⟩⟩

/-! ### The engine is idle between commands -/

theorem blockEnd_fsm (trn : Nat) (rq : Byte) (count : BitVec 16) (data : List Byte) {s : State} (h : s.fsm = .idle) :
    (blockEnd trn rq count data s).2.fsm = .idle := by
  obtain ⟨-, hidle⟩ := blockLoop_keeps (trn := trn) (req := requestOf rq s.req.value) (data := data)
    (fun _ t => t.fsm = .idle) (fun _ _ _ => transferWithRetry_fsm ..)
    (fun _ t ht _ _ => (storeBlockWord_fsm _ t).trans ht) count.toNat 0 (blockStart rq s) h
  exact hidle

/-- A command from an idle engine leaves it idle (10_state.md R23). -/
theorem exec_packet_fsm {i : Instr} {s t : State} (hi : i.wordPort = .packet) (ht : exec i s = .next t)
    (h : s.fsm = .idle) : t.fsm = .idle := by
  obtain ⟨-, -, cfg, connected, ⟨u, rfl⟩, -⟩ | ⟨-, hw, -⟩ | ⟨rq, operand, rfl, -⟩ | ⟨rq, count, data, rfl, -⟩ |
    ⟨n, data, rfl, -⟩ := exec_kinds ht
  · exact h
  · exact absurd hi hw
  · obtain rfl | rfl := exec_xfer_cases ht
    · exact h
    · rw [transferCommand_eq]
      exact transferWithRetry_fsm ..
  · obtain ⟨c, rfl⟩ | ⟨-, rfl⟩ := exec_xferBlk_cases ht
    · exact h
    · rw [blockCommand_eq]
      obtain ⟨-, -, -, hfsm⟩ := blockResponse_keeps (rqDirection rq) count.toNat
        (blockEnd Config.trnCycles rq count data s).1 (blockEnd Config.trnCycles rq count data s).2
      exact hfsm.trans (blockEnd_fsm _ rq count data h)
  · obtain rfl | rfl := exec_swjSeq_cases ht
    · exact h
    · rw [sequenceCommand_eq]
      rfl

/-- Settles O47: a step that takes a packet returns to the host once, with the answer of the one handler. -/
theorem everyRequestGetsExactlyOneResponse : Obligations.EveryRequestGetsExactlyOneResponse := by
  intro s bytes rest hready
  obtain ⟨t, hstep, ⟨c, rfl⟩ | ⟨i, hdecode, ht, hanswer⟩⟩ := hready.answer
  · exact ⟨_, ⟨[0xFF], false⟩, hstep, rfl, rfl, Nat.le_refl 1, by decide, fun _ => ⟨rfl, rfl⟩, rfl, hready.1, rfl⟩
  · obtain ⟨-, hport, -⟩ := decodedPacketBeginsWithItsEncoding bytes i hdecode
    obtain ⟨hframe, -⟩ := whoWritesWhat i _ t ht
    obtain ⟨-, hle⟩ := exec_packet_fits hport ht
    refine ⟨_, ⟨t.response, t.okOut⟩, hstep, ?_, rfl, ?_, ?_, fun hc => absurd hanswer.cause hc, rfl, ?_, hframe.inputs⟩
    · rw [returnToHost_outbox, hframe.outbox, acceptPacket_outbox]
    · rw [hanswer.length_response]
      exact hanswer.pos
    · rw [hanswer.length_response]
      exact hle
    · exact exec_packet_fsm (t := t) hport ht hready.1

/-- The first byte of an answer is the first byte of the packet it answers (42_dap_dispatch.md R188). -/
theorem Answered.head?_response {i : Instr} {t : State} {bytes : List Byte} (h : Answered i t)
    (hprefix : encode i <+: bytes) : t.response.head? = bytes.head? := by
  obtain ⟨op, hop⟩ := Option.isSome_iff_exists.1 (h.filled 0 h.pos)
  obtain ⟨trailing, rfl⟩ := hprefix
  rw [List.head?_eq_getElem?, State.response, h.filled.getElem?_bytes h.pos, List.head?_append, ← h.echo, hop]
  rfl

/-- Settles O48: an answer echoes the opcode, with which the packet begins; and a transfer that passes its checks is
answered, whatever its acknowledgement. -/
theorem responseEchoesTheOpcode : Obligations.ResponseEchoesTheOpcode := by
  intro s t bytes rest hready hstep
  have hrun {i : Instr} {u : State} (hi : decodePacket bytes.length bytes = .ok i)
      (hu : exec i (acceptPacket bytes rest s) = .next u) : t = returnToHost u := by
    cases hstep.symm.trans (hready.step_of_ok hi hu)
    rfl
  refine ⟨fun hcause => ?_, fun hcause => ?_, fun rq v hdecode hrq => ?_,
    fun rq count data hdecode hcheck hcount => ?_⟩
  · obtain ⟨u, hu, ⟨c, rfl⟩ | ⟨i, hdecode, -, hanswer⟩⟩ := hready.answer <;> cases hstep.symm.trans hu
    · cases hcause
    · obtain ⟨-, -, hprefix⟩ := decodedPacketBeginsWithItsEncoding bytes i hdecode
      exact hanswer.head?_response hprefix
  · obtain ⟨u, hu, ⟨c, rfl⟩ | ⟨i, hdecode, -, hanswer⟩⟩ := hready.answer <;> cases hstep.symm.trans hu
    · rfl
    · exact absurd hanswer.cause hcause
  · obtain rfl := hrun hdecode (exec_xfer_eq (rqReserved_eq_false hrq) v _)
    exact ⟨(transferCommand_answered ..).cause, transferCommand_response_ack ..⟩
  · obtain rfl := hrun hdecode (exec_xferBlk_eq hcheck _)
    exact ⟨(blockCommand_answered _ _ hcheck).cause, blockCommand_response_ack _ _ hcheck hcount⟩

/-! ### A request by its length and its opcode -/

/-- Settles O13: the length is checked before any byte is read. -/
theorem emptyOrOversizedRequestIsRejected : Obligations.EmptyOrOversizedRequestIsRejected :=
  fun _ _ _ hready hlen => ⟨hready.step_of_error (decodePacket_badLength hlen), rfl⟩

/-- Settles O20: the byte is none of the opcode map, and the default handler rejects it. -/
theorem unknownOpcodeFallsToTheDefaultHandler : Obligations.UnknownOpcodeFallsToTheDefaultHandler := by
  intro op hop
  have hunassigned : isUnassignedOpcode op = true := by simpa [isUnassignedOpcode] using hop
  exact ⟨fun fields hlen => decodePacket_unknown (Laws.opcodeOf_unassigned op hunassigned) hlen,
    fun s => ⟨rfl, rfl⟩⟩

/-- Settles O12: below its opcode's minimum a request is truncated, and from it on every field of the command is
there. -/
theorem shortRequestIsAnsweredWithTheSentinel : Obligations.ShortRequestIsAnsweredWithTheSentinel := by
  intro s bytes rest op n hready hmem hhead
  obtain ⟨fields, rfl⟩ := List.head?_eq_some_iff.1 hhead
  have hclassA : ∀ p ∈ ([(0x00, 2), (0x01, 3), (0x02, 2), (0x03, 1), (0x04, 6), (0x05, 6), (0x06, 4), (0x07, 1),
      (0x12, 2)] : List (Byte × Nat)), (opcodeOf p.1).map minLength = some p.2 := by decide
  obtain ⟨o, hop, rfl⟩ := Option.map_eq_some_iff.1 (hclassA _ hmem)
  refine ⟨fun hshort => ?_, fun hmin hlen => ?_⟩
  · exact ⟨_, hready.step_of_error (decodePacket_truncated hop hshort), rfl, rfl, rfl, rfl, rfl, rfl, rfl,
      by constructor <;> rfl⟩
  · obtain ⟨i, hdecode, hnames⟩ := decodePacket_of_minLength hop hmin (Nat.le_of_succ_le_succ hlen)
    obtain ⟨-, hport, hprefix⟩ := decodedPacketBeginsWithItsEncoding (op :: fields) i hdecode
    obtain ⟨t, ht, -⟩ := exec_packet_answer hport (acceptPacket (op :: fields) rest s)
    have hcommand (o' : Opcode) (h : op = o'.byte) : o'.Names i := by
      cases hop.symm.trans (opcodeOf_eq_some_iff.2 h)
      exact hnames
    exact ⟨i, t, hdecode, hprefix, hcommand .info, hcommand .hostStatus, hcommand .connect, hcommand .disconnect,
      hcommand .xferCfg, hcommand .xfer, hcommand .xferBlk, hcommand .xferAbort, hcommand .swjSeq, ht,
      hready.step_of_ok hdecode ht⟩

/-! ### Two states that face the same target -/

/-- Two states that have the same configuration and face the same target: the answers given to it in advance and the
pin events it has seen are the same (42_dap_dispatch.md R191). -/
structure Alike (s s' : State) : Prop where
  cfg : s.cfg = s'.cfg
  samples : s.samples = s'.samples
  trace : s.trace = s'.trace

theorem sampledBit_alike {s s' : State} (h : Alike s s') : sampledBit s = sampledBit s' := by
  have hsamples : (clockLow s).samples = (clockLow s').samples := h.samples
  have htrace : (clockLow s).trace = (clockLow s').trace :=
    congrArg (fun t => PinEvent.delay :: .setClock false :: t) h.trace
  rw [sampledBit, sampledBit, State.lineLevel, State.lineLevel, hsamples, htrace]

theorem readBit_alike {s s' : State} (h : Alike s s') : Alike (readBit s) (readBit s') where
  cfg := h.cfg
  samples := congrArg List.tail h.samples
  trace := congrArg₂ (fun b => afterWire [.r b]) (sampledBit_alike h) h.trace

theorem sampleAckBit_alike (k : Nat) {s s' : State} (h : Alike s s') : Alike (sampleAckBit k s) (sampleAckBit k s') :=
  ⟨(readBit_alike h).cfg, (readBit_alike h).samples, (readBit_alike h).trace⟩

theorem sampleDataBit_alike (k : Nat) {s s' : State} (h : Alike s s') :
    Alike (sampleDataBit k s) (sampleDataBit k s') :=
  ⟨(readBit_alike h).cfg, (readBit_alike h).samples, (readBit_alike h).trace⟩

theorem sampleParityBit_alike {s s' : State} (h : Alike s s') : Alike (sampleParityBit s) (sampleParityBit s') :=
  ⟨(readBit_alike h).cfg, (readBit_alike h).samples, (readBit_alike h).trace⟩

theorem turnCycle_alike {s s' : State} (h : Alike s s') : Alike (turnCycle s) (turnCycle s') :=
  ⟨h.cfg, h.samples, congrArg (afterWire [.z]) h.trace⟩

theorem forCnt_alike (op : Nat → State → State) (hop : ∀ k {s s'}, Alike s s' → Alike (op k s) (op k s')) (n : Nat)
    {s s' : State} (h : Alike s s') : Alike (forCnt op n s) (forCnt op n s') := by
  induction n with
  | zero => exact h
  | succ n ih => exact hop n ih

theorem turnCycles_alike (n : Nat) {s s' : State} (h : Alike s s') : Alike (turnCycles n s) (turnCycles n s') :=
  forCnt_alike (fun _ => turnCycle) (fun _ => turnCycle_alike) n h

/-! ### What is sampled can be read off the history -/

theorem afterWire_reads_injective {xs ys : List Bool} {t : List PinEvent}
    (h : afterWire (xs.map .r) t = afterWire (ys.map .r) t) : xs = ys := by
  have hevents : wireEvents (xs.map .r) = wireEvents (ys.map .r) :=
    List.reverse_injective (List.append_cancel_right h)
  clear h
  induction xs generalizing ys with
  | nil =>
    cases ys with
    | nil => rfl
    | cons y ys => simp [WireSymbol.events] at hevents
  | cons x xs ih =>
    cases ys with
    | nil => simp [WireSymbol.events] at hevents
    | cons y ys =>
      have hcons : (WireSymbol.r x).events ++ wireEvents (xs.map .r) =
          (WireSymbol.r y).events ++ wireEvents (ys.map .r) := hevents
      obtain ⟨hx, hxs⟩ := List.append_inj hcons rfl
      cases hx
      rw [ih hxs]

theorem wireBits_injective {w : Nat} {u v : BitVec w} (h : wireBits u = wireBits v) : u = v :=
  BitVec.eq_of_getLsbD_eq fun i hi => List.map_inj_left.1 h i (List.mem_range.2 hi)

theorem headerWire_ack_injective {trn : Nat} {req : TransferRequest} {a a' : BitVec 3} {t : List PinEvent}
    (h : afterWire (headerWire trn req a) t = afterWire (headerWire trn req a') t) : a = a' := by
  rw [headerWire, headerWire, afterWire_append _ ((wireBits a).map .r), afterWire_append _ ((wireBits a').map .r)] at h
  exact wireBits_injective (afterWire_reads_injective h)

theorem readWire_data_injective {v v' : Word} {pb pb' : Bool} {ws : List WireSymbol} {t : List PinEvent}
    (h : afterWire ((wireBits v).map .r ++ .r pb :: ws) t = afterWire ((wireBits v').map .r ++ .r pb' :: ws) t) :
    v = v' ∧ pb = pb' := by
  have hsplit (v : Word) (pb : Bool) : afterWire ((wireBits v).map .r ++ .r pb :: ws) t =
      afterWire ws (afterWire ((wireBits v ++ [pb]).map .r) t) := by
    rw [← afterWire_append, List.map_append, List.append_assoc]
    rfl
  rw [hsplit, hsplit] at h
  obtain ⟨hv, hpb⟩ := List.append_inj' (afterWire_reads_injective (List.append_cancel_left h)) rfl
  exact ⟨wireBits_injective hv, List.singleton_inj.1 hpb⟩

/-! ### Two attempts of the same access -/

/-- Two requests for the same register in the same direction, whatever their values. -/
structure SameRegister (req req' : TransferRequest) : Prop where
  port : req.port = req'.port
  direction : req.direction = req'.direction
  registerIndex : req.registerIndex = req'.registerIndex

/-- Two requests that an attempt cannot tell apart: a read does not use its value (41_swd_transfer.md R132, R139). -/
structure SameAccess (req req' : TransferRequest) : Prop extends SameRegister req req' where
  value : req.direction = .write → req.value = req'.value

theorem SameAccess.refl (req : TransferRequest) : SameAccess req req := ⟨⟨rfl, rfl, rfl⟩, fun _ => rfl⟩

section
variable {req req' : TransferRequest} {s s' : State}

theorem headerOf_congr (hreq : SameRegister req req') : headerOf req = headerOf req' := by
  rw [headerOf, headerOf, hreq.port, hreq.direction, hreq.registerIndex]

theorem headerWire_congr (hreq : SameRegister req req') (trn : Nat) (a : BitVec 3) :
    headerWire trn req a = headerWire trn req' a := by
  rw [headerWire, headerWire, headerOf_congr hreq]

theorem headerAndAck_alike (trn : Nat) (hreq : SameRegister req req') (h : Alike s s') :
    Alike (headerAndAck trn req s) (headerAndAck trn req' s') := by
  have hheader : Alike (headerPhase (latchRequest req s)) (headerPhase (latchRequest req' s')) := by
    rw [headerPhase_latchRequest, headerPhase_latchRequest, headerOf_congr hreq]
    exact ⟨h.cfg, h.samples, congrArg (afterWire (.out :: (wireBits (headerOf req')).map .w)) h.trace⟩
  have hrelease : Alike (setDirection .input (headerPhase (latchRequest req s)))
      (setDirection .input (headerPhase (latchRequest req' s'))) :=
    ⟨hheader.cfg, hheader.samples, congrArg (afterWire [.rel]) hheader.trace⟩
  exact forCnt_alike sampleAckBit sampleAckBit_alike 3 (turnCycles_alike trn hrelease)

/-- The target acknowledges the two headers alike. -/
theorem exists_ack_alike (trn : Nat) (hreq : SameRegister req req') (h : Alike s s') :
    ∃ a, headerAndAck trn req s = afterHeader trn req a (s.samples.drop 3) s ∧
      headerAndAck trn req' s' = afterHeader trn req' a (s'.samples.drop 3) s' := by
  obtain ⟨a, ha⟩ := headerAndAck_any trn req s
  obtain ⟨a', ha'⟩ := headerAndAck_any trn req' s'
  have htrace := (headerAndAck_alike trn hreq h).trace
  rw [ha, ha'] at htrace
  have hwire : afterWire (headerWire trn req a) s.trace = afterWire (headerWire trn req' a') s'.trace := htrace
  rw [headerWire_congr hreq, h.trace] at hwire
  obtain rfl := headerWire_ack_injective hwire
  exact ⟨a, ha, ha'⟩

theorem idleCyclesAfterRead_alike (h : Alike s s') : Alike (idleCyclesAfterRead s) (idleCyclesAfterRead s') := by
  rw [idleCyclesAfterRead, idleCyclesAfterRead, h.cfg]
  exact turnCycles_alike _ h

theorem readPhase_alike (trn : Nat) (h : Alike s s') : Alike (readPhase trn s) (readPhase trn s') := by
  have hdata : Alike (readDataPhase s) (readDataPhase s') :=
    forCnt_alike sampleDataBit sampleDataBit_alike 32 ⟨h.cfg, h.samples, h.trace⟩
  have hidle := idleCyclesAfterRead_alike (turnCycles_alike trn (sampleParityBit_alike hdata))
  exact ⟨hidle.cfg, hidle.samples, hidle.trace⟩

/-- The target answers the two reads alike. -/
theorem exists_readData_alike (trn : Nat) (h : Alike s s') :
    ∃ v pb, readPhase trn s = afterReadData trn v pb (s.samples.drop 33) s ∧
      readPhase trn s' = afterReadData trn v pb (s'.samples.drop 33) s' := by
  obtain ⟨v, pb, hread⟩ := readPhase_any trn s
  obtain ⟨v', pb', hread'⟩ := readPhase_any trn s'
  have htrace := (readPhase_alike trn h).trace
  rw [hread, hread', afterReadData, afterReadData] at htrace
  dsimp only at htrace
  rw [h.trace, h.cfg, List.append_assoc, List.append_assoc] at htrace
  obtain ⟨rfl, rfl⟩ := readWire_data_injective htrace
  exact ⟨v, pb, hread, hread'⟩

/-- Two attempts of the same access, from states that face the same target, end with the same result and leave states
that face the same target. -/
theorem executeTransfer_alike (trn : Nat) (hreq : SameAccess req req') (h : Alike s s') :
    Alike (executeTransfer trn req s) (executeTransfer trn req' s') ∧
      (executeTransfer trn req s).res = (executeTransfer trn req' s').res := by
  obtain ⟨a, ha, ha'⟩ := exists_ack_alike trn hreq.toSameRegister h
  rw [executeTransfer_eq, executeTransfer_eq, ha, ha']
  have hsamples (n : Nat) := congrArg (List.drop n) h.samples
  by_cases hok : a = 1
  · subst hok
    cases hd : req.direction with
    | read =>
      have hheader := headerAndAck_alike trn hreq.toSameRegister h
      rw [ha, ha'] at hheader
      obtain ⟨v, pb, hread, hread'⟩ := exists_readData_alike trn hheader
      rw [afterAck_read rfl hd, afterAck_read rfl (hreq.direction ▸ hd), hread, hread', afterReadData_afterHeader,
        afterReadData_afterHeader]
      refine ⟨⟨h.cfg, congrArg (List.drop 33) hheader.samples, ?_⟩, rfl⟩
      show afterWire _ _ = afterWire _ _
      rw [readWire, readWire, headerWire_congr hreq.toSameRegister, h.cfg, h.trace]
    | write =>
      rw [afterAck_write rfl hd, afterAck_write rfl (hreq.direction ▸ hd), writePhase_afterHeader,
        writePhase_afterHeader]
      refine ⟨⟨h.cfg, hsamples 3, ?_⟩, rfl⟩
      show afterWire _ _ = afterWire _ _
      rw [writeWire, writeWire, headerWire_congr hreq.toSameRegister, hreq.value hd, h.cfg, h.trace]
  · rw [afterAck_noData (s := afterHeader trn req a _ s) hok, afterAck_noData (s := afterHeader trn req' a _ s') hok,
      noDataPhase_afterHeader, noDataPhase_afterHeader]
    refine ⟨⟨h.cfg, hsamples 3, ?_⟩, rfl⟩
    show afterWire _ _ = afterWire _ _
    rw [noDataWire, noDataWire, headerWire_congr hreq.toSameRegister, h.trace]

/-! ### Two runs of the retry loop -/

theorem attempt_alike (trn : Nat) (hreq : SameAccess req req') (h : Alike s s') :
    Alike (attempt trn req s) (attempt trn req' s') ∧ (attempt trn req s).res = (attempt trn req' s').res := by
  obtain ⟨halike, hres⟩ := executeTransfer_alike trn hreq h
  exact ⟨⟨halike.cfg, halike.samples, halike.trace⟩, hres⟩

theorem retryLoop_alike (trn : Nat) (hreq : SameAccess req req') (more : Nat) (h : Alike s s') :
    Alike (retryLoop trn req more s) (retryLoop trn req' more s') ∧
      (retryLoop trn req more s).res = (retryLoop trn req' more s').res := by
  induction more generalizing s s' with
  | zero => exact attempt_alike trn hreq h
  | succ more ih =>
    obtain ⟨halike, hres⟩ := attempt_alike trn hreq h
    rw [retryLoop_succ, retryLoop_succ, hres]
    split
    · exact ih halike
    · exact ⟨halike, hres⟩

theorem transferWithRetry_alike (trn : Nat) (hreq : SameAccess req req') (h : Alike s s') :
    Alike (transferWithRetry trn req s) (transferWithRetry trn req' s') ∧
      (transferWithRetry trn req s).res = (transferWithRetry trn req' s').res := by
  have hbudget : retryBudget s = retryBudget s' := by rw [retryBudget, retryBudget, h.cfg]
  rw [transferWithRetry, transferWithRetry, hbudget]
  exact retryLoop_alike trn hreq _ ⟨h.cfg, h.samples, h.trace⟩

/-! ### Two runs of the loop of TransferBlock -/

/-- Two blocks that are equally far, with the same response so far. -/
structure BlockAlike (s s' : State) : Prop extends Alike s s' where
  respBuf : s.respBuf = s'.respBuf
  doneCount : s.doneCount = s'.doneCount
  okOut : s.okOut = s'.okOut
  cause : s.cause = s'.cause

theorem loadBlockWord_alike (data : List Byte) (hreq : SameRegister req req') (h : BlockAlike s s') :
    Alike (loadBlockWord req data s) (loadBlockWord req' data s') ∧
      SameAccess (loadBlockWord req data s).req (loadBlockWord req' data s').req := by
  unfold loadBlockWord
  rw [← hreq.direction, ← h.doneCount]
  split
  · exact ⟨⟨h.cfg, h.samples, h.trace⟩, ⟨hreq.port, rfl, hreq.registerIndex⟩, fun _ => rfl⟩
  · next hread =>
    exact ⟨⟨h.cfg, h.samples, h.trace⟩, ⟨hreq.port, rfl, hreq.registerIndex⟩,
      fun hwrite => nomatch hread.symm.trans hwrite⟩

theorem subTransfer_alike (trn : Nat) (data : List Byte) (hreq : SameRegister req req') (h : BlockAlike s s') :
    BlockAlike (subTransfer trn req data s) (subTransfer trn req' data s') ∧
      (subTransfer trn req data s).res = (subTransfer trn req' data s').res := by
  obtain ⟨hload, haccess⟩ := loadBlockWord_alike data hreq h
  obtain ⟨halike, hres⟩ := transferWithRetry_alike trn haccess hload
  obtain ⟨hbuf, hdone, hok, hcause⟩ := subTransfer_keeps trn req data s
  obtain ⟨hbuf', hdone', hok', hcause'⟩ := subTransfer_keeps trn req' data s'
  exact ⟨⟨halike, by rw [hbuf, hbuf', h.respBuf], by rw [hdone, hdone', h.doneCount], by rw [hok, hok', h.okOut],
    by rw [hcause, hcause', h.cause]⟩, hres⟩

theorem respWriteBytes_congr (off : Nat) (bs : List Byte) (h : s.respBuf = s'.respBuf) :
    (s.respWriteBytes off bs).respBuf = (s'.respWriteBytes off bs).respBuf := by
  induction bs generalizing off s s' with
  | nil => exact h
  | cons b bs ih => exact ih _ (by dsimp only; rw [h])

theorem storeBlockWord_alike (d : Direction) (h : BlockAlike s s') (hres : s.res = s'.res) :
    BlockAlike (storeBlockWord d s) (storeBlockWord d s') := by
  unfold storeBlockWord
  rw [← hres, ← h.doneCount]
  cases surfacedValue d s.res with
  | none => exact ⟨⟨h.cfg, h.samples, h.trace⟩, h.respBuf, rfl, h.okOut, h.cause⟩
  | some v =>
    dsimp only
    rw [respWrite_eq, respWrite_eq _ _ _ s']
    exact ⟨⟨h.cfg, h.samples, h.trace⟩, respWriteBytes_congr _ _ h.respBuf, rfl, h.okOut, h.cause⟩

theorem blockLoop_alike (trn : Nat) (data : List Byte) (hreq : SameRegister req req') (more : Nat) (ack : BitVec 4)
    (h : BlockAlike s s') :
    (blockLoop trn req data more ack s).1 = (blockLoop trn req' data more ack s').1 ∧
      BlockAlike (blockLoop trn req data more ack s).2 (blockLoop trn req' data more ack s').2 := by
  induction more generalizing ack s s' with
  | zero => exact ⟨rfl, h⟩
  | succ more ih =>
    obtain ⟨hsub, hres⟩ := subTransfer_alike trn data hreq h
    rw [blockLoop_succ, blockLoop_succ, ← hres, ← hreq.direction]
    split
    · exact ih _ (storeBlockWord_alike _ hsub hres)
    · exact ⟨rfl, hsub⟩

/-! ### Two runs of a command -/

/-- Two commands that were answered alike: the same response and outcome, and the same pin events. -/
structure SameAnswer (t t' : State) : Prop where
  respBuf : t.respBuf = t'.respBuf
  respLen : t.respLen = t'.respLen
  okOut : t.okOut = t'.okOut
  cause : t.cause = t'.cause
  trace : t.trace = t'.trace
  samples : t.samples = t'.samples

theorem errorResponse_sameAnswer (c : ErrorCause) (h : Alike s s') :
    SameAnswer (errorResponse c s) (errorResponse c s') :=
  ⟨rfl, rfl, rfl, rfl, h.trace, h.samples⟩

theorem transferCommand_sameAnswer (trn : Nat) (rq : Byte) (operand : Word) (h : Alike s s') :
    SameAnswer (transferCommand trn rq operand s) (transferCommand trn rq operand s') := by
  have hbegin : Alike { beginCommand 0x05 s with rp := 6 } { beginCommand 0x05 s' with rp := 6 } :=
    ⟨h.cfg, h.samples, h.trace⟩
  obtain ⟨halike, hres⟩ := transferWithRetry_alike trn (.refl (requestOf rq operand)) hbegin
  have hframe := transferWithRetry_frame trn (requestOf rq operand) { beginCommand 0x05 s with rp := 6 }
  have hframe' := transferWithRetry_frame trn (requestOf rq operand) { beginCommand 0x05 s' with rp := 6 }
  rw [transferCommand_eq, transferCommand_eq, hres]
  exact ⟨rfl, rfl, rfl, hframe.cause.trans hframe'.cause.symm, halike.trace, halike.samples⟩

theorem blockResponse_sameAnswer (d : Direction) (count : Nat) (ack : BitVec 4) (h : BlockAlike s s') :
    SameAnswer (endCommand (blockResponse d count ack s)) (endCommand (blockResponse d count ack s')) := by
  unfold blockResponse
  rw [← h.doneCount, ← h.okOut, respWrite_eq 3, respWrite_eq 1, respWrite_eq 3 _ _ (s'.respWrite _ _ _),
    respWrite_eq 1 _ _ s']
  have hbuf := respWriteBytes_congr 3 (leBytes 1 ack.toNat)
    (respWriteBytes_congr 1 (leBytes 2 s.doneCount) h.respBuf)
  exact ⟨hbuf, rfl, rfl, h.cause, h.trace, h.samples⟩

theorem blockCommand_sameAnswer (trn : Nat) (rq : Byte) (count : BitVec 16) (data : List Byte) (h : Alike s s') :
    SameAnswer (blockCommand trn rq count data s) (blockCommand trn rq count data s') := by
  have hreq : SameRegister (requestOf rq s.req.value) (requestOf rq s'.req.value) := ⟨rfl, rfl, rfl⟩
  have hstart : BlockAlike (blockStart rq s) (blockStart rq s') :=
    ⟨⟨h.cfg, h.samples, h.trace⟩, rfl, rfl, rfl, rfl⟩
  obtain ⟨hack, hloop⟩ := blockLoop_alike trn data hreq count.toNat 0 hstart
  rw [blockCommand_eq, blockCommand_eq, blockEnd, blockEnd, hack]
  exact blockResponse_sameAnswer _ _ _ hloop

theorem sequenceCommand_sameAnswer (n : Byte) (data : List Byte) (h : Alike s s') :
    SameAnswer (sequenceCommand n data s) (sequenceCommand n data s') := by
  rw [sequenceCommand_eq, sequenceCommand_eq]
  exact ⟨rfl, rfl, rfl, rfl, congrArg (afterWire (sequenceWire _ data)) h.trace, h.samples⟩

theorem infoCommand_sameAnswer (table : Byte → Option Config.InfoValue) (id : Byte) (h : Alike s s') :
    SameAnswer (infoCommand table id s) (infoCommand table id s') := by
  rw [infoCommand_eq, infoCommand_eq]
  exact ⟨rfl, rfl, rfl, rfl, h.trace, h.samples⟩

/-- A command is answered alike from states with the same configuration that face the same target
(42_dap_dispatch.md R191). -/
theorem exec_packet_sameAnswer {i : Instr} (hi : i.wordPort = .packet) (h : Alike s s') :
    ∃ t t', exec i s = .next t ∧ exec i s' = .next t' ∧ SameAnswer t t' := by
  cases i <;> try contradiction
  case info id => exact ⟨_, _, rfl, rfl, infoCommand_sameAnswer _ id h⟩
  case hostStatus | connect | disconnect | xferCfg | xferAbort =>
    exact ⟨_, _, rfl, rfl, rfl, rfl, rfl, rfl, h.trace, h.samples⟩
  case xfer rq operand =>
    cases hrq : rqReserved rq with
    | true => exact ⟨_, _, if_pos hrq, if_pos hrq, errorResponse_sameAnswer _ h⟩
    | false =>
      exact ⟨_, _, exec_xfer_eq hrq operand s, exec_xfer_eq hrq operand s', transferCommand_sameAnswer _ rq operand h⟩
  case xferBlk rq count data =>
    cases hcheck : blockCheck rq count data with
    | some c =>
      exact ⟨_, _, exec_xferBlk_rejected hcheck s, exec_xferBlk_rejected hcheck s', errorResponse_sameAnswer c h⟩
    | none =>
      exact ⟨_, _, exec_xferBlk_eq hcheck s, exec_xferBlk_eq hcheck s', blockCommand_sameAnswer _ rq count data h⟩
  case swjSeq n data =>
    by_cases hshort : data.length < swjByteCount n
    · exact ⟨_, _, if_pos hshort, if_pos hshort, errorResponse_sameAnswer _ h⟩
    · exact ⟨_, _, exec_swjSeq_eq hshort s, exec_swjSeq_eq hshort s', sequenceCommand_sameAnswer n data h⟩
  all_goals exact ⟨_, _, rfl, rfl, errorResponse_sameAnswer _ h⟩

end

/-- Settles O53: the attempts of the two runs are answered alike, and the handlers answer by those results. -/
theorem responseDependsOnConfigurationAndAnswersAlone : Obligations.ResponseDependsOnConfigurationAndAnswersAlone := by
  intro i s s' hi hcfg hsamples htrace
  obtain ⟨t, t', ht, ht', h⟩ := exec_packet_sameAnswer hi ⟨hcfg, hsamples, htrace⟩
  exact ⟨t, t', ht, ht', h.respBuf, h.respLen, h.okOut, h.cause, h.trace, h.samples⟩

end Sys2Proof.Machine
end

section
/-! PROOF. The family of the information, connection and configuration commands (43_dap_config_info.md): how the
packet of TransferConfigure is read, what Info answers, what the commands with a status byte answer. -/

namespace Sys2Proof

/-! ### The packet of TransferConfigure -/

/-- The two bytes of a `u16` field, the low one first (20_memory.md R45). -/
theorem leBytes_append (lo hi : Byte) : leBytes 2 (hi ++ lo).toNat = [lo, hi] := by
  have hlo := lo.isLt
  have hval : (hi ++ lo).toNat = leNat [lo, hi] := by
    rw [BitVec.toNat_append, ← Nat.shiftLeft_add_eq_or_of_lt hlo, Nat.shiftLeft_eq, leNat, leNat, leNat]
    omega
  rw [hval]
  exact leBytes_leNat [lo, hi]

/-- A `u16` field that stands in a packet is read whole (30_encoding.md R84). -/
theorem readU16_at (pre post : List Byte) (lo hi : Byte) {off : Nat} (hoff : pre.length = off) :
    readU16 (pre ++ [lo, hi] ++ post) off = some (hi ++ lo) := by
  rw [← leBytes_append]
  exact Laws.readU16_mid pre post (hi ++ lo) off hoff

theorem assemble_xferCfg (i wl wh ml mh : Byte) (extra : List Byte) :
    assemble .xferCfg ([0x04, i, wl, wh, ml, mh] ++ extra) = some (.xferCfg i (wh ++ wl) (mh ++ ml)) := by
  have hidle : readU8 ([0x04, i, wl, wh, ml, mh] ++ extra) 1 = some i := Laws.readU8_at [0x04] _ i 1 rfl
  have hwait : readU16 ([0x04, i, wl, wh, ml, mh] ++ extra) 2 = some (wh ++ wl) :=
    readU16_at [0x04, i] (ml :: mh :: extra) wl wh rfl
  have hmatch : readU16 ([0x04, i, wl, wh, ml, mh] ++ extra) 4 = some (mh ++ ml) :=
    readU16_at [0x04, i, wl, wh] extra ml mh rfl
  simp only [assemble, hidle, hwait, hmatch]

/-- TransferConfigure's fields at their offsets; the bytes after them are not read (42_dap_dispatch.md R192). -/
theorem decodePacket_xferCfg (i wl wh ml mh : Byte) {extra : List Byte} (h : extra.length ≤ 58) :
    decodePacket (6 + extra.length) ([0x04, i, wl, wh, ml, mh] ++ extra) = .ok (.xferCfg i (wh ++ wl) (mh ++ ml)) := by
  have hlen : ([i, wl, wh, ml, mh] ++ extra).length = 5 + extra.length := List.length_append
  have hpacket := Laws.decodePacket_of_assemble 0x04 ([i, wl, wh, ml, mh] ++ extra) .xferCfg _ (by omega) rfl
    (by rw [hlen, minLength]; omega) (assemble_xferCfg i wl wh ml mh extra)
  rwa [List.length_cons, hlen, Nat.add_right_comm] at hpacket

end Sys2Proof

namespace Sys2Proof.Machine

/-! ### Info -/

/-- The host reads Info's echo, the count of the value bytes, and the value (43_dap_config_info.md R210). -/
theorem response_infoCommand (table : Byte → Option Config.InfoValue) (id : Byte) (s : State) :
    (infoCommand table id s).response =
      0x00 :: BitVec.ofNat 8 (infoValue table id).length :: infoValue table id := by
  rw [infoCommand_eq]
  dsimp only [State.response]
  rw [Nat.add_comm 2]
  exact bytes_ofBytes (0x00 :: BitVec.ofNat 8 (infoValue table id).length :: infoValue table id)

/-- The value of an identifier outside the table has no bytes (43_dap_config_info.md R211). -/
theorem infoValue_eq_nil {table : Byte → Option Config.InfoValue} {id : Byte} (h : table id = none) :
    infoValue table id = [] := by
  rw [infoValue, h]

/-- Settles O14: Info's whole next state is its answer, and the value leaves room for the echo and the length. -/
theorem infoAnswersTheTableValue : Obligations.InfoAnswersTheTableValue := by
  intro table id s
  dsimp only
  refine ⟨rfl, response_infoCommand table id s, ?_⟩
  rw [infoCommand_eq]
  exact ⟨rfl, Nat.add_le_add_left (infoValue_length_le table id) 2, rfl, rfl, rfl, rfl, rfl, by constructor <;> rfl,
    by constructor <;> rfl⟩

/-- Settles O15: an identifier outside the table has the empty value, and Info answers it as any other value. -/
theorem unknownInfoIdGivesAZeroLengthValue : Obligations.UnknownInfoIdGivesAZeroLengthValue := by
  intro table id s h
  have hresponse : (infoCommand table id s).response = [0x00, 0x00] := by
    rw [response_infoCommand, infoValue_eq_nil h]
    rfl
  refine ⟨hresponse, ?_, ?_, ?_, rfl⟩
  · rw [infoCommand_eq, infoValue_eq_nil h]
    rfl
  · rw [infoCommand_eq]
  · rw [hresponse]
    decide

/-! ### The commands that answer a status byte -/

/-- The answer the control commands share: the echo and one status byte (43_dap_config_info.md R214 to R222). -/
theorem statusReply_eq (op : Byte) (v rp : Nat) (s : State) :
    endCommand { (beginCommand op s).respWrite 1 1 v with rp := rp, wp := 2 } =
      { s with
        respBuf := [(0, op), (1, BitVec.ofNat 8 v)], respLen := 2, okOut := true, cause := none, rp := rp, wp := 2 } := by
  rw [respWrite_ofBytes (off := 1) v [op] rfl rfl (by decide)]
  rfl

/-- Settles O16: HostStatus answers a status byte that is 0, TransferAbort the echo alone. -/
theorem hostStatusAndAbortOnlyAnswer : Obligations.HostStatusAndAbortOnlyAnswer :=
  ⟨fun _ _ s => congrArg Host.Outcome.next (statusReply_eq 0x01 0x00 3 s), fun _ => rfl⟩

theorem connectResult_eq_true_iff {p : Byte} : connectResult p = true ↔ p = 0 ∨ p = 1 := by
  rw [connectResult, Bool.or_eq_true, decide_eq_true_eq, decide_eq_true_eq]

theorem connectResult_eq_false {p : Byte} (h0 : p ≠ 0) (h1 : p ≠ 1) : connectResult p = false :=
  Bool.eq_false_iff.2 fun h => (connectResult_eq_true_iff.1 h).elim h0 h1

/-- Connect's whole next state: the port it reports is its flag and its status byte (43_dap_config_info.md R216). -/
theorem exec_connect_eq {p : Byte} {c : Bool} (h : connectResult p = c) (s : State) :
    exec (.connect p) s = .next
      { s with
        connected := c, respBuf := [(0, 0x02), (1, BitVec.ofNat 8 c.toNat)], respLen := 2, okOut := true, cause := none
        rp := 2, wp := 2 } := by
  subst h
  exact congrArg Host.Outcome.next (statusReply_eq 0x02 (connectResult p).toNat 2 { s with connected := connectResult p })

/-- Settles O17: the port Connect reports is 1 for the ports 0 and 1 alone, and Disconnect's flag is 0. -/
theorem connectAndDisconnectWriteTheFlag : Obligations.ConnectAndDisconnectWriteTheFlag :=
  ⟨fun _ s h => exec_connect_eq (connectResult_eq_true_iff.2 h) s,
    fun _ s h0 h1 => exec_connect_eq (connectResult_eq_false h0 h1) s,
    fun s => congrArg Host.Outcome.next (statusReply_eq 0x03 0x00 1 { s with connected := false })⟩

/-! ### TransferConfigure -/

/-- Settles O18: the three fields are read at their offsets, fewer than five operand bytes are below the minimum
length, and the whole configuration is written before the status byte is answered. -/
theorem transferConfigureWritesAllThreeFields : Obligations.TransferConfigureWritesAllThreeFields :=
  ⟨fun i wl wh ml mh _ h => decodePacket_xferCfg i wl wh ml mh h,
    fun _ hshort => decodePacket_truncated rfl (Nat.succ_lt_succ hshort),
    fun i w m s => congrArg Host.Outcome.next (statusReply_eq 0x04 0x00 6 { s with cfg := ⟨i, w, m⟩ })⟩

end Sys2Proof.Machine
end

section
/-! PROOF. The transfer commands (44_dap_transfer.md): what the target's answers make of a retry loop, of a Transfer and
of a TransferBlock, and SWJ_Sequence. -/

namespace Sys2Proof.Machine

/-! ### The retry loop, whatever the target answers -/

theorem attempt_retryCount (trn : Nat) (req : TransferRequest) (s : State) :
    (attempt trn req s).retryCount = s.retryCount + 1 := by
  obtain ⟨u, hu⟩ := executeTransfer_writes trn req s
  rw [attempt, hu]
  rfl

theorem attempts_retryCount (trn : Nat) (req : TransferRequest) (n : Nat) (s : State) :
    (attempts trn req n s).retryCount = s.retryCount + n := by
  induction n with
  | zero => rfl
  | succ n ih => rw [attempts_succ, attempt_retryCount, ih, Nat.add_assoc]

/-- Attempts made after one attempt. -/
theorem attempts_attempt (trn : Nat) (req : TransferRequest) (n : Nat) (s : State) :
    attempts trn req n (attempt trn req s) = attempts trn req (n + 1) s := by
  induction n with
  | zero => rfl
  | succ n ih => rw [attempts_succ, ih, ← attempts_succ]

/-- `t` is where a retry loop of at most `budget` attempts ends after `n` of them: each before the last was answered
WAIT, and a WAIT is reported only when none is left (44_dap_transfer.md R243, R244). -/
structure EndsAfter (trn : Nat) (req : TransferRequest) (budget n : Nat) (s t : State) : Prop where
  pos : 1 ≤ n
  le : n ≤ budget
  eq : t = attempts trn req n s
  waited : ∀ k, 0 < k → k < n → (attempts trn req k s).res.ack = resWait
  spent : t.res.ack = resWait → n = budget

theorem retryLoop_endsAfter (trn : Nat) (req : TransferRequest) (more : Nat) (s : State) :
    ∃ n, EndsAfter trn req (more + 1) n s (retryLoop trn req more s) := by
  induction more generalizing s with
  | zero => exact ⟨1, Nat.le_refl 1, Nat.le_refl 1, rfl, fun k h0 h1 => by omega, fun _ => rfl⟩
  | succ more ih =>
    rw [retryLoop_succ]
    split
    · next hwait =>
      obtain ⟨n, hn⟩ := ih (attempt trn req s)
      refine ⟨n + 1, Nat.le_add_left 1 n, Nat.succ_le_succ hn.le, hn.eq.trans (attempts_attempt ..), fun k h0 hk => ?_,
        fun hack => congrArg (· + 1) (hn.spent hack)⟩
      obtain ⟨j, rfl⟩ := Nat.exists_eq_succ_of_ne_zero h0.ne'
      rw [Nat.succ_eq_add_one, ← attempts_attempt]
      obtain rfl | hj := Nat.eq_zero_or_pos j
      · exact hwait
      · exact hn.waited j hj (Nat.lt_of_succ_lt_succ hk)
    · next hother =>
      exact ⟨1, Nat.le_refl 1, Nat.le_add_left 1 _, rfl, fun k h0 h1 => by omega, fun hack => absurd hack hother⟩

theorem retryBudget_pos (s : State) : 0 < retryBudget s := Nat.lt_of_lt_of_le Nat.zero_lt_one (Nat.le_max_left 1 _)

theorem transferWithRetry_endsAfter (trn : Nat) (req : TransferRequest) (s : State) :
    ∃ n, EndsAfter trn req (retryBudget s) n { s with retryCount := 0 } (transferWithRetry trn req s) := by
  have h := retryLoop_endsAfter trn req (retryBudget s - 1) { s with retryCount := 0 }
  rwa [Nat.sub_add_cancel (retryBudget_pos s)] at h

/-- No attempt makes more clock cycles than an acknowledged one (41_swd_transfer.md R147). -/
theorem attempt_clockCycles_le (trn : Nat) (req : TransferRequest) (s : State) :
    clockCycles (attempt trn req s).trace ≤ clockCycles s.trace + (44 + 2 * trn + s.cfg.idleCycles.toNat) := by
  obtain ⟨-, -, -, -, hcycles⟩ := resultOfAnAttemptByCase trn req s
  refine hcycles.trans_le (Nat.add_le_add_left ?_ _)
  split <;> omega

theorem attempt_clockCycles_of_wait {trn : Nat} {req : TransferRequest} {s : State}
    (h : (attempt trn req s).res.ack = resWait) :
    clockCycles (attempt trn req s).trace = clockCycles s.trace + (11 + 2 * trn) := by
  obtain ⟨hres, -, -, -, hcycles⟩ := resultOfAnAttemptByCase trn req s
  refine hcycles.trans (congrArg _ (if_neg fun hok => ?_))
  have h : (executeTransfer trn req s).res.ack = 2 := h
  rw [hres, if_pos hok] at h
  split at h
  · cases h
  · split at h <;> cases h

/-- Attempts that were all answered WAIT have no data phase and no idle cycles (41_swd_transfer.md R147). -/
theorem attempts_clockCycles_of_waits {trn : Nat} {req : TransferRequest} {n : Nat} {s : State}
    (h : ∀ k, 0 < k → k ≤ n → (attempts trn req k s).res.ack = resWait) :
    clockCycles (attempts trn req n s).trace = clockCycles s.trace + n * (11 + 2 * trn) := by
  induction n with
  | zero => rw [attempts_zero, Nat.zero_mul, Nat.add_zero]
  | succ n ih =>
    rw [attempts_succ, attempt_clockCycles_of_wait (h (n + 1) (Nat.succ_pos n) (Nat.le_refl _)),
      ih fun k h0 hk => h k h0 (Nat.le_succ_of_le hk), Nat.add_one_mul n, Nat.add_assoc]

theorem EndsAfter.clockCycles_le {trn : Nat} {req : TransferRequest} {budget n : Nat} {s t : State}
    (h : EndsAfter trn req budget n s t) :
    clockCycles t.trace ≤
      clockCycles s.trace + ((budget - 1) * (11 + 2 * trn) + 44 + 2 * trn + s.cfg.idleCycles.toNat) := by
  obtain ⟨last, rfl⟩ := Nat.exists_eq_add_of_le' h.pos
  have hwaits := attempts_clockCycles_of_waits fun k h0 hk => h.waited k h0 (Nat.lt_succ_of_le hk)
  have hlast := attempt_clockCycles_le trn req (attempts trn req last s)
  have hle : last * (11 + 2 * trn) ≤ (budget - 1) * (11 + 2 * trn) := Nat.mul_le_mul_right _ (Nat.le_sub_one_of_lt h.le)
  rw [hwaits, (attempts_frame trn req last s).cfg] at hlast
  rw [h.eq, attempts_succ]
  omega

/-- Settles O39: where the loop ends, and the cycles of its attempts. -/
theorem retryStopsAtTheBudgetForEveryTarget : Obligations.RetryStopsAtTheBudgetForEveryTarget := by
  intro trn req s t start budget
  obtain ⟨n, h⟩ := transferWithRetry_endsAfter trn req s
  have hcount : t.retryCount = n := by
    show (transferWithRetry trn req s).retryCount = n
    rw [h.eq, attempts_retryCount, Nat.zero_add]
  rw [hcount]
  exact ⟨h.pos, h.le, h.eq, h.waited, h.spent, h.clockCycles_le, transferWithRetry_frame trn req s⟩


/-! ### What the target answers to a transfer -/

/-- What the target answers to an attempt: OK with a value and a parity bit to a read, OK to a write, or another
acknowledgement (30_encoding.md R75, R79). -/
inductive TargetAnswer where
  | value (v : Word) (pb : Bool)
  | written
  | other (a : BitVec 3)

namespace TargetAnswer

/-- The levels of an answer, in the order in which they are sampled. -/
def levels : TargetAnswer → List Bool
  | .value v pb => readAnswer v pb
  | .written => ackAnswer 1
  | .other a => ackAnswer a

/-- The requests that can be answered so. -/
def Fits : TargetAnswer → Direction → Prop
  | .value _ _, d => d = .read
  | .written, d => d = .write
  | .other a, _ => a ≠ 1

/-- The result of an attempt answered so (41_swd_transfer.md R136, R138, R139). -/
def result : TargetAnswer → TransferResult
  | .value v pb => if pb = parity v then ⟨1, some v⟩ else ⟨8, none⟩
  | .written => ⟨1, none⟩
  | .other a => ⟨a.setWidth 4, none⟩

/-- The wire trace of an attempt answered so. -/
def wire (trn idle : Nat) (req : TransferRequest) : TargetAnswer → List WireSymbol
  | .value v pb => readWire trn idle req v pb
  | .written => writeWire trn idle req
  | .other a => noDataWire trn req a

/-- The direction an attempt answered so leaves the line in (41_swd_transfer.md R143). -/
def lineDir : TargetAnswer → LineDir
  | .value _ _ => .input
  | .written => .output
  | .other _ => .input

theorem wait_fits {d : Direction} : Fits (.other 2) d := by
  show (2 : BitVec 3) ≠ 1
  decide

/-- A value with its own parity bit (41_swd_transfer.md R138). -/
theorem result_value {v : Word} {pb : Bool} (h : pb = parity v) : (value v pb).result = ⟨1, some v⟩ := if_pos h

/-- A value with the wrong parity bit is lost (41_swd_transfer.md R138). -/
theorem result_value_of_ne {v : Word} {pb : Bool} (h : pb ≠ parity v) : (value v pb).result = ⟨8, none⟩ := if_neg h

/-- What is left after an attempt that was answered so. -/
structure Ended (ans : TargetAnswer) (trn : Nat) (req : TransferRequest) (rest : List Bool) (s t : State) : Prop where
  res : t.res = ans.result
  dir : t.dir = ans.lineDir
  samples : t.samples = rest
  trace : t.trace = afterWire (ans.wire trn s.cfg.idleCycles.toNat req) s.trace
  retryCount : t.retryCount = s.retryCount + 1

theorem attempt_ended {ans : TargetAnswer} {req : TransferRequest} {rest : List Bool} {s : State} (trn : Nat)
    (hfits : ans.Fits req.direction) (h : s.samples = ans.levels ++ rest) :
    ans.Ended trn req rest s (attempt trn req s) := by
  cases ans with
  | value v pb =>
    rw [attempt, executeTransfer_read h hfits]
    exact ⟨rfl, rfl, rfl, rfl, rfl⟩
  | written =>
    rw [attempt, executeTransfer_write h hfits]
    exact ⟨rfl, rfl, rfl, rfl, rfl⟩
  | other a =>
    rw [attempt, executeTransfer_noData h hfits]
    exact ⟨rfl, rfl, rfl, rfl, rfl⟩

end TargetAnswer

theorem waits_succ (k : Nat) : waits (k + 1) = ackAnswer 2 ++ waits k := rfl

theorem waits_succ' (k : Nat) : waits (k + 1) = waits k ++ ackAnswer 2 := by
  rw [waits, List.replicate_succ', List.flatten_concat]
  rfl

/-- The wire trace of `k` attempts answered WAIT. -/
def waitsWire (trn : Nat) (req : TransferRequest) (k : Nat) : List WireSymbol :=
  (List.replicate k (noDataWire trn req 2)).flatten

/-- The state after `k` attempts that were answered WAIT. -/
structure Waited (trn : Nat) (req : TransferRequest) (k : Nat) (rest : List Bool) (s u : State) : Prop where
  samples : u.samples = rest
  trace : u.trace = afterWire (waitsWire trn req k) s.trace
  retryCount : u.retryCount = s.retryCount + k
  cfg : u.cfg = s.cfg

/-- A loop with attempts left goes on past the attempts that are answered WAIT (44_dap_transfer.md R243). -/
theorem retryLoop_waits (trn : Nat) (req : TransferRequest) {k : Nat} {rest : List Bool} {s : State}
    (h : s.samples = waits k ++ rest) :
    ∃ u, Waited trn req k rest s u ∧ ∀ more, retryLoop trn req (more + k) s = retryLoop trn req more u := by
  induction k generalizing s with
  | zero => exact ⟨s, ⟨h, rfl, rfl, rfl⟩, fun _ => rfl⟩
  | succ k ih =>
    rw [waits_succ, List.append_assoc] at h
    have hwait := TargetAnswer.attempt_ended (ans := .other 2) (req := req) trn TargetAnswer.wait_fits h
    obtain ⟨u, hu, hloop⟩ := ih hwait.samples
    refine ⟨u, ⟨hu.samples, ?_, ?_, hu.cfg.trans (attempt_frame trn req s).cfg⟩, fun more => ?_⟩
    · rw [hu.trace, hwait.trace, ← afterWire_append]
      rfl
    · rw [hu.retryCount, hwait.retryCount, Nat.add_assoc, Nat.add_comm 1]
    · have hack : (attempt trn req s).res.ack = resWait := congrArg TransferResult.ack hwait.res
      rw [← Nat.add_assoc, retryLoop_succ, if_pos hack, hloop]

/-- An attempt that is not answered WAIT is the last (44_dap_transfer.md R243). -/
theorem retryLoop_of_ne_wait {trn : Nat} {req : TransferRequest} {more : Nat} {s : State}
    (h : 0 < more → (attempt trn req s).res.ack ≠ resWait) : retryLoop trn req more s = attempt trn req s := by
  cases more with
  | zero => rfl
  | succ more => rw [retryLoop_succ, if_neg (h (Nat.succ_pos more))]

/-- The target waits `k` times, fewer than the budget, and then answers `ans`, a further WAIT only as the last attempt
of the budget. -/
structure Course (d : Direction) (budget k : Nat) (ans : TargetAnswer) : Prop where
  within : k < budget
  fits : ans.Fits d
  last : ans.result.ack = resWait → k + 1 = budget

/-- What a transfer with retries leaves, when the target's answers are given. -/
structure Transferred (trn : Nat) (req : TransferRequest) (k : Nat) (ans : TargetAnswer) (rest : List Bool)
    (s t : State) : Prop where
  res : t.res = ans.result
  dir : t.dir = ans.lineDir
  samples : t.samples = rest
  trace : t.trace = afterWire (waitsWire trn req k ++ ans.wire trn s.cfg.idleCycles.toNat req) s.trace
  retryCount : t.retryCount = k + 1

theorem transferWithRetry_transferred (trn : Nat) {req : TransferRequest} {k : Nat} {ans : TargetAnswer}
    {rest : List Bool} {s : State} (hc : Course req.direction (retryBudget s) k ans)
    (h : s.samples = waits k ++ (ans.levels ++ rest)) :
    Transferred trn req k ans rest s (transferWithRetry trn req s) := by
  obtain ⟨u, hu, hloop⟩ := retryLoop_waits trn req (s := { s with retryCount := 0 }) h
  have hend := TargetAnswer.attempt_ended trn hc.fits hu.samples
  have hrun : transferWithRetry trn req s = attempt trn req u := by
    have hmore : retryBudget s - 1 = retryBudget s - 1 - k + k := by have := hc.within; omega
    rw [transferWithRetry, hmore, hloop, retryLoop_of_ne_wait fun hpos hwait => ?_]
    have := hc.last (hend.res ▸ hwait)
    omega
  rw [hrun]
  refine ⟨hend.res, hend.dir, hend.samples, ?_, ?_⟩
  · rw [hend.trace, hu.trace, hu.cfg, afterWire_append]
  · rw [hend.retryCount, hu.retryCount, Nat.zero_add]

/-! ### Transfer -/

theorem rqDirection_read {rq : Byte} (h : rq.getLsbD 1 = true) : rqDirection rq = .read := by
  rw [rqDirection, h]
  rfl

theorem rqDirection_write {rq : Byte} (h : rq.getLsbD 1 = false) : rqDirection rq = .write := by
  rw [rqDirection, h]
  rfl

/-- What a command that was not rejected leaves as it was, and that it has no cause label. -/
def Completed (s t : State) : Prop :=
  t.cfg = s.cfg ∧ t.connected = s.connected ∧ t.busy = s.busy ∧ t.cause = none ∧ CommandFrame s t

/-- A Transfer whose target's answers are given: what its attempts leave, and the response (44_dap_transfer.md R243 to
R246). -/
structure TransferDone (rq : Byte) (operand : Word) (k : Nat) (ans : TargetAnswer) (rest : List Bool)
    (s t : State) : Prop where
  attempts : Transferred 0 (requestOf rq operand) k ans rest s t
  response : t.response = 0x05 :: ans.result.ack.setWidth 8 :: valueBytes (rqDirection rq) ans.result
  respLen : t.respLen = 2 + (valueBytes (rqDirection rq) ans.result).length
  okOut : t.okOut = (ans.result.ack == resOk)
  completed : Completed s t

theorem exec_xfer_done {rq : Byte} (operand : Word) {k : Nat} {ans : TargetAnswer} {rest : List Bool} {s : State}
    (hrq : rq &&& 0xF0#8 = 0) (hc : Course (rqDirection rq) (retryBudget s) k ans)
    (h : s.samples = waits k ++ (ans.levels ++ rest)) :
    ∃ t, exec (.xfer rq operand) s = .next t ∧ TransferDone rq operand k ans rest s t := by
  have hrun := transferWithRetry_transferred 0 (req := requestOf rq operand)
    (s := { beginCommand 0x05 s with rp := 6 }) hc h
  have hframe := transferWithRetry_frame 0 (requestOf rq operand) { beginCommand 0x05 s with rp := 6 }
  have heq := transferCommand_eq 0 rq operand s
  refine ⟨transferCommand 0 rq operand s, exec_xfer_eq (rqReserved_eq_false hrq) operand s, ?_⟩
  dsimp only at heq
  generalize transferWithRetry 0 _ _ = t at hrun hframe heq
  rw [heq, hrun.res]
  refine ⟨⟨rfl, hrun.dir, hrun.samples, hrun.trace, hrun.retryCount⟩, ?_, rfl, rfl, hframe.cfg, hframe.connected,
    hframe.busy, hframe.cause, hframe.rst, hframe.reqBuf, hframe.reqLen, hframe.inputs, hframe.outbox⟩
  rw [State.response, Nat.add_comm]
  exact bytes_ofBytes (0x05 :: ans.result.ack.setWidth 8 :: valueBytes (rqDirection rq) ans.result)

theorem valueBytes_other (d : Direction) (a : BitVec 3) : valueBytes d (TargetAnswer.other a).result = [] := by
  cases d <;> simp [valueBytes, surfacedValue, TargetAnswer.result]

theorem course_value {budget k : Nat} (h : k < budget) (v : Word) (pb : Bool) :
    Course .read budget k (.value v pb) := by
  refine ⟨h, rfl, fun hwait => ?_⟩
  by_cases hp : pb = parity v
  · rw [TargetAnswer.result_value hp] at hwait
    cases hwait
  · rw [TargetAnswer.result_value_of_ne hp] at hwait
    cases hwait

theorem course_written {budget k : Nat} (h : k < budget) : Course .write budget k .written := ⟨h, rfl, nofun⟩

theorem setWidth_ack_eq_wait {a : BitVec 3} : a.setWidth 4 = resWait ↔ a = 2 := by decide +revert

theorem setWidth_ack_eq_ok {a : BitVec 3} : a.setWidth 4 = resOk ↔ a = 1 := by decide +revert

theorem setWidth_setWidth_ack (a : BitVec 3) : (a.setWidth 4).setWidth 8 = a.setWidth 8 := by decide +revert

theorem course_other {budget k : Nat} (d : Direction) {a : BitVec 3} (h : k < budget) (hok : a ≠ 1) (hwait : a ≠ 2) :
    Course d budget k (.other a) :=
  ⟨h, hok, fun h => absurd (setWidth_ack_eq_wait.1 h) hwait⟩

/-- A target that waits until the budget is spent. -/
theorem course_spent (d : Direction) (s : State) : Course d (retryBudget s) (retryBudget s - 1) (.other 2) := by
  have hpos := retryBudget_pos s
  exact ⟨Nat.sub_lt hpos Nat.one_pos, TargetAnswer.wait_fits, fun _ => Nat.sub_add_cancel hpos⟩

theorem waits_retryBudget (s : State) : waits (retryBudget s) = waits (retryBudget s - 1) ++ ackAnswer 2 := by
  rw [← waits_succ', Nat.sub_add_cancel (retryBudget_pos s)]

/-- Settles O34: the last attempt reads the value and the parity bit. -/
theorem transferReadAfterWaits : Obligations.TransferReadAfterWaits := by
  intro rq operand s k v pb rest hrq hread hk h
  have hd := rqDirection_read hread
  obtain ⟨t, ht, hattempts, hresponse, hlen, hok, hcompleted⟩ := exec_xfer_done operand hrq
    (hd.symm ▸ course_value hk v pb) (h.trans (List.append_assoc ..))
  rw [hd] at hresponse hlen
  by_cases hp : pb = parity v
  · rw [TargetAnswer.result_value hp] at hresponse hlen hok
    rw [if_pos hp, if_pos hp, decide_eq_true hp]
    exact ⟨t, ht, hattempts.retryCount, hattempts.samples, hresponse, hlen, hok, hcompleted⟩
  · rw [TargetAnswer.result_value_of_ne hp] at hresponse hlen hok
    rw [if_neg hp, if_neg hp, decide_eq_false hp]
    exact ⟨t, ht, hattempts.retryCount, hattempts.samples, hresponse, hlen, hok, hcompleted⟩

/-- Settles O35: the last attempt drives the operand, and the line stays driven. -/
theorem transferWriteAfterWaits : Obligations.TransferWriteAfterWaits := by
  intro rq operand s k rest hrq hwrite hk h
  have hd := rqDirection_write hwrite
  obtain ⟨t, ht, hattempts, hresponse, hlen, hok, hcompleted⟩ := exec_xfer_done operand hrq
    (hd.symm ▸ course_written hk) (h.trans (List.append_assoc ..))
  rw [hd] at hresponse hlen
  exact ⟨t, ht, hattempts.retryCount, hattempts.samples, hresponse, hlen, hok, hattempts.dir,
    hattempts.trace, hcompleted⟩

/-- Settles O36: the last attempt is answered neither OK nor WAIT. -/
theorem transferReportsTheFirstOtherAcknowledgement : Obligations.TransferReportsTheFirstOtherAcknowledgement := by
  intro rq operand s k a rest hrq hk hok hwait h
  obtain ⟨t, ht, hattempts, hresponse, hlen, hstatus, hcompleted⟩ := exec_xfer_done operand hrq
    (course_other _ hk hok hwait) (h.trans (List.append_assoc ..))
  rw [valueBytes_other] at hresponse hlen
  rw [TargetAnswer.result, setWidth_setWidth_ack] at hresponse
  exact ⟨t, ht, hattempts.retryCount, hattempts.samples, hresponse, hlen,
    hstatus.trans (beq_eq_false_iff_ne.2 (mt setWidth_ack_eq_ok.1 hok)), hattempts.dir, hcompleted⟩

@[simp] theorem wireCycles_noDataWire (trn : Nat) (req : TransferRequest) (a : BitVec 3) :
    wireCycles (noDataWire trn req a) = 11 + 2 * trn := by
  rw [noDataWire, wireCycles_append, wireCycles_headerWire, wireCycles_replicate_z]
  omega

theorem wireCycles_waitsWire (trn : Nat) (req : TransferRequest) (k : Nat) :
    wireCycles (waitsWire trn req k) = (11 + 2 * trn) * k := by
  induction k with
  | zero => rfl
  | succ k ih =>
    rw [waitsWire, List.replicate_succ, List.flatten_cons, wireCycles_append, wireCycles_noDataWire, ← waitsWire, ih,
      Nat.mul_succ, Nat.add_comm]

/-- Settles O37: the last attempt of the budget is answered WAIT as the ones before. -/
theorem transferGivesUpWhenTheBudgetIsSpent : Obligations.TransferGivesUpWhenTheBudgetIsSpent := by
  intro rq operand s rest hrq h
  have h : s.samples = waits (retryBudget s) ++ rest := h
  rw [waits_retryBudget, List.append_assoc] at h
  obtain ⟨t, ht, hattempts, hresponse, hlen, hok, hcompleted⟩ := exec_xfer_done operand hrq (course_spent _ s) h
  have hbudget := Nat.sub_add_cancel (retryBudget_pos s)
  rw [valueBytes_other] at hresponse hlen
  refine ⟨t, ht, hattempts.retryCount.trans hbudget, hattempts.samples, hresponse, hlen, hok, ?_, hcompleted⟩
  show _ = _ + 11 * retryBudget s
  rw [hattempts.trace, clockCycles_afterWire_eq_add, wireCycles_append, wireCycles_waitsWire, TargetAnswer.wire,
    wireCycles_noDataWire, ← Nat.mul_succ, Nat.succ_eq_add_one, hbudget]

/-- Settles O38: a flipped bit flips the parity, and the value is not surfaced. -/
theorem flippedReadBitIsNotSurfaced : Obligations.FlippedReadBitIsNotSurfaced := by
  intro rq operand s v j rest hrq hread hj h
  obtain ⟨-, hflip⟩ := parityBitMakesTheOnesEven
  have hstale : ¬parity v = parity (v ^^^ 1#32 <<< j) := by
    rw [hflip v j hj]
    exact (Bool.eq_not_self _).1
  obtain ⟨t, ht, hcount, -, hresponse, -, hok, -⟩ :=
    transferReadAfterWaits rq operand s 0 _ _ rest hrq hread (retryBudget_pos s) h
  rw [if_neg hstale] at hresponse
  exact ⟨t, ht, hcount, hresponse, hok.trans (decide_eq_false hstale)⟩

/-! ### The sub-transfers of TransferBlock -/

/-- The answer that completes a sub-transfer: to a read a value with its parity bit, to a write OK. -/
def completedAnswer : Direction → Word → TargetAnswer
  | .read, v => .value v (parity v)
  | .write, _ => .written

/-- The answers to completed sub-transfers, each after as many WAITs as its number says. -/
def completedLevels (d : Direction) (done : List (Nat × Word)) : List Bool :=
  done.flatMap fun kv => waits kv.1 ++ (completedAnswer d kv.2).levels

/-- The value bytes of completed sub-transfers: a write has none (44_dap_transfer.md R253). -/
def completedBytes : Direction → List (Nat × Word) → List Byte
  | .read, done => done.flatMap fun kv => leBytes 4 kv.2.toNat
  | .write, _ => []

theorem completedLevels_read (vs : List (Nat × Word)) : completedLevels .read vs = blockReadAnswers vs := rfl

theorem completedLevels_write (ks : List Nat) : completedLevels .write (ks.map (·, 0)) = blockWriteAnswers ks :=
  List.flatMap_map ..

theorem completedBytes_length (done : List (Nat × Word)) : (completedBytes .read done).length = 4 * done.length := by
  induction done with
  | nil => rfl
  | cons kv done ih =>
    rw [completedBytes, List.flatMap_cons, List.length_append, leBytes_length, ← completedBytes, ih, List.length_cons]
    omega

theorem result_completedAnswer_ack (d : Direction) (v : Word) : (completedAnswer d v).result.ack = resOk := by
  cases d with
  | read => exact congrArg TransferResult.ack (TargetAnswer.result_value rfl)
  | write => rfl

theorem course_completed {budget k : Nat} (d : Direction) (h : k < budget) (v : Word) :
    Course d budget k (completedAnswer d v) := by
  cases d with
  | read => exact course_value h v (parity v)
  | write => exact course_written h

/-- Loading a word changes the request and its cursor alone. -/
theorem loadBlockWord_eq (req : TransferRequest) (data : List Byte) (s : State) :
    loadBlockWord req data s =
      { s with req := (loadBlockWord req data s).req, rp := (loadBlockWord req data s).rp } := by
  unfold loadBlockWord
  split <;> rfl

theorem loadBlockWord_req_of_write {req : TransferRequest} (data : List Byte) (s : State) (h : req.direction = .write) :
    (loadBlockWord req data s).req = { req with value := blockWord data s.doneCount } := by
  rw [loadBlockWord, h]

theorem subTransfer_transferred (trn : Nat) {req : TransferRequest} (data : List Byte) {k : Nat} {ans : TargetAnswer}
    {rest : List Bool} {s : State} (hc : Course req.direction (retryBudget s) k ans)
    (h : s.samples = waits k ++ (ans.levels ++ rest)) :
    Transferred trn (loadBlockWord req data s).req k ans rest s (subTransfer trn req data s) := by
  have hload := loadBlockWord_eq req data s
  have hd := loadBlockWord_direction req data s
  rw [subTransfer]
  generalize loadBlockWord req data s = l at hload hd
  have hl : l.samples = s.samples ∧ l.cfg = s.cfg ∧ l.trace = s.trace := by rw [hload]; exact ⟨rfl, rfl, rfl⟩
  obtain ⟨hsamples, hcfg, htrace⟩ := hl
  have hbudget : retryBudget l = retryBudget s := by rw [retryBudget, hcfg, retryBudget]
  have hrun := transferWithRetry_transferred trn (req := l.req) (hd ▸ hbudget ▸ hc) (hsamples.trans h)
  exact ⟨hrun.res, hrun.dir, hrun.samples, hcfg ▸ htrace ▸ hrun.trace, hrun.retryCount⟩

theorem subTransfer_cfg_busy (trn : Nat) (req : TransferRequest) (data : List Byte) (s : State) :
    (subTransfer trn req data s).cfg = s.cfg ∧ (subTransfer trn req data s).busy = s.busy := by
  have hframe := transferWithRetry_frame trn (loadBlockWord req data s).req (loadBlockWord req data s)
  have hload : (loadBlockWord req data s).cfg = s.cfg ∧ (loadBlockWord req data s).busy = s.busy := by
    rw [loadBlockWord_eq]
    exact ⟨rfl, rfl⟩
  exact ⟨hframe.cfg.trans hload.1, hframe.busy.trans hload.2⟩

/-- `u` is the state of a block begun in `s` that has completed the sub-transfers `done`, with the answers `rest` to
come: a read's values stand from response byte 4 on (44_dap_transfer.md R252, R253). -/
structure BlockReached (d : Direction) (done : List (Nat × Word)) (rest : List Bool) (s u : State) : Prop where
  samples : u.samples = rest
  doneCount : u.doneCount = done.length
  values : ∀ i, Memory.read u.respBuf (4 + i) = (completedBytes d done)[i]?
  cfg : u.cfg = s.cfg
  busy : u.busy = s.busy

theorem BlockReached.retryBudget_eq {d : Direction} {done : List (Nat × Word)} {rest : List Bool} {s u : State}
    (h : BlockReached d done rest s u) : retryBudget u = retryBudget s := by
  rw [retryBudget, h.cfg, retryBudget]

theorem blockStart_reached (d : Direction) (rq : Byte) (s : State) :
    BlockReached d [] s.samples s (blockStart rq s) := by
  refine ⟨rfl, rfl, fun i => ?_, rfl, rfl⟩
  have hbeyond : Memory.read [(0, 0x06)] (4 + i) = none := by
    rw [read_cons, if_neg (by omega), read_nil]
  cases d <;> exact hbeyond

/-- A sub-transfer takes its answers and leaves the completed ones. -/
theorem BlockReached.subTransfer {req : TransferRequest} {done : List (Nat × Word)} {k : Nat} {ans : TargetAnswer}
    {rest : List Bool} {s u : State} (trn : Nat) (data : List Byte)
    (h : BlockReached req.direction done (waits k ++ (ans.levels ++ rest)) s u)
    (hc : Course req.direction (retryBudget s) k ans) :
    BlockReached req.direction done rest s (subTransfer trn req data u) ∧
      (Machine.subTransfer trn req data u).res = ans.result := by
  have hrun := subTransfer_transferred trn data (h.retryBudget_eq ▸ hc) h.samples
  obtain ⟨hbuf, hdone, -, -⟩ := subTransfer_keeps trn req data u
  obtain ⟨hcfg, hbusy⟩ := subTransfer_cfg_busy trn req data u
  exact ⟨⟨hrun.samples, hdone.trans h.doneCount, by rw [hbuf]; exact h.values, hcfg.trans h.cfg, hbusy.trans h.busy⟩,
    hrun.res⟩

/-- The value of a completed read is stored behind the values before it. -/
theorem BlockReached.store {d : Direction} {done : List (Nat × Word)} {rest : List Bool} {s u : State} (k : Nat)
    {v : Word} (h : BlockReached d done rest s u) (hres : u.res = (completedAnswer d v).result)
    (hroom : d = .read → done.length + 1 ≤ 15) :
    BlockReached d (done ++ [(k, v)]) rest s (storeBlockWord d u) := by
  have hcount : u.doneCount + 1 = (done ++ [(k, v)]).length := by rw [h.doneCount, List.length_append]; rfl
  cases d with
  | write => exact ⟨h.samples, hcount, h.values, h.cfg, h.busy⟩
  | read =>
    have hres : u.res = ⟨1, some v⟩ := hres.trans (TargetAnswer.result_value rfl)
    have hfit : 4 + 4 * done.length + 4 ≤ 64 := by have := hroom rfl; omega
    have hlen := completedBytes_length done
    have hbytes : completedBytes .read (done ++ [(k, v)]) = completedBytes .read done ++ leBytes 4 v.toNat := by
      simp [completedBytes]
    rw [storeBlockWord_read (v := v) (by rw [hres]; rfl) (by rw [hres])]
    refine ⟨h.samples, hcount, fun i => ?_, h.cfg, h.busy⟩
    dsimp only
    rw [h.doneCount, read_respWrite _ _ _ _ _ hfit, hbytes]
    split
    · rw [List.getElem?_append_right (by omega), hlen]
      congr 1
      omega
    · rw [h.values]
      obtain hi | hi := Nat.lt_or_ge i (4 * done.length)
      · rw [List.getElem?_append_left (by omega)]
      · rw [List.getElem?_eq_none (by omega), List.getElem?_eq_none]
        rw [List.length_append, leBytes_length]
        omega

/-- The loop of a block makes the sub-transfers that the target completes, and goes on. -/
theorem blockLoop_completes (trn : Nat) {req : TransferRequest} (data : List Byte) {done : List (Nat × Word)}
    {rest : List Bool} {s : State} (more : Nat) (hk : ∀ kv ∈ done, kv.1 < retryBudget s) (pre : List (Nat × Word))
    (ack : BitVec 4) (u : State) (hroom : req.direction = .read → pre.length + done.length ≤ 15)
    (h : BlockReached req.direction pre (completedLevels req.direction done ++ rest) s u) :
    ∃ u', BlockReached req.direction (pre ++ done) rest s u' ∧
      blockLoop trn req data (done.length + more) ack u =
        blockLoop trn req data more (if done = [] then ack else resOk) u' := by
  induction done generalizing pre ack u with
  | nil =>
    refine ⟨u, ?_, by rw [List.length_nil, Nat.zero_add, if_pos rfl]⟩
    rw [List.append_nil]
    exact h
  | cons kv done ih =>
    obtain ⟨k, v⟩ := kv
    have hlevels : completedLevels req.direction ((k, v) :: done) ++ rest =
        waits k ++ ((completedAnswer req.direction v).levels ++ (completedLevels req.direction done ++ rest)) := by
      simp only [completedLevels, List.flatMap_cons, List.append_assoc]
    rw [hlevels] at h
    rw [List.length_cons] at hroom
    obtain ⟨hsub, hres⟩ := h.subTransfer trn data
      (course_completed req.direction (hk (k, v) List.mem_cons_self) v)
    have hack : (subTransfer trn req data u).res.ack = resOk := by rw [hres, result_completedAnswer_ack]
    have hstored := hsub.store k hres fun hd => (Nat.succ_le_succ (Nat.le_add_right ..)).trans (hroom hd)
    obtain ⟨u', hu', hloop⟩ := ih (fun x hx => hk x (List.mem_cons_of_mem _ hx)) (pre ++ [(k, v)]) resOk _
      (fun hd => by rw [List.length_append, List.length_singleton]; exact (Nat.succ_add ..).trans_le (hroom hd)) hstored
    refine ⟨u', ?_, ?_⟩
    · rwa [List.append_assoc] at hu'
    · rw [List.length_cons, Nat.add_right_comm, blockLoop_succ, if_pos hack, hack, hloop, ite_self,
        if_neg (List.cons_ne_nil _ _)]

section
variable {rq : Byte} {count : BitVec 16} {data : List Byte} {s : State} {done : List (Nat × Word)} {rest : List Bool}

/-- A block whose every sub-transfer is completed: its last acknowledgement, 0 if it is empty (44_dap_transfer.md R253,
R256). -/
theorem blockEnd_completed (trn : Nat) (hk : ∀ kv ∈ done, kv.1 < retryBudget s) (hlen : done.length = count.toNat)
    (hroom : rqDirection rq = .read → done.length ≤ 15)
    (h : s.samples = completedLevels (rqDirection rq) done ++ rest) :
    ∃ u, blockEnd trn rq count data s = (if done = [] then 0 else resOk, u) ∧
      BlockReached (rqDirection rq) done rest s u := by
  obtain ⟨u, hu, hloop⟩ := blockLoop_completes trn (req := requestOf rq s.req.value) data (rest := rest) 0 hk [] 0
    (blockStart rq s) (fun hd => (Nat.zero_add _).trans_le (hroom hd)) (h ▸ blockStart_reached (rqDirection rq) rq s)
  exact ⟨u, by rw [blockEnd, ← hlen]; exact hloop, hu⟩

/-- A block that is stopped early: the acknowledgement of the sub-transfer that stops it (44_dap_transfer.md R255). -/
theorem blockEnd_stopped (trn : Nat) {k : Nat} {ans : TargetAnswer} (hk : ∀ kv ∈ done, kv.1 < retryBudget s)
    (hlen : done.length < count.toNat) (hroom : rqDirection rq = .read → done.length ≤ 15)
    (hc : Course (rqDirection rq) (retryBudget s) k ans) (hstop : ans.result.ack ≠ resOk)
    (h : s.samples = completedLevels (rqDirection rq) done ++ (waits k ++ (ans.levels ++ rest))) :
    ∃ u, blockEnd trn rq count data s = (ans.result.ack, u) ∧ BlockReached (rqDirection rq) done rest s u := by
  obtain ⟨more, hmore⟩ := Nat.exists_eq_add_of_lt hlen
  obtain ⟨u, hu, hloop⟩ := blockLoop_completes trn (req := requestOf rq s.req.value) data (more + 1) hk [] 0
    (blockStart rq s) (fun hd => (Nat.zero_add _).trans_le (hroom hd)) (h ▸ blockStart_reached (rqDirection rq) rq s)
  obtain ⟨hsub, hres⟩ := hu.subTransfer trn data hc
  refine ⟨_, ?_, hsub⟩
  rw [blockEnd, hmore, Nat.add_assoc, hloop, blockLoop_succ, if_neg (by rw [hres]; exact hstop), hres]

/-- The response of TransferBlock: the opcode, how many sub-transfers completed, the last acknowledgement, the values
(44_dap_transfer.md R253). -/
def reportBytes (d : Direction) (ack : BitVec 4) (done : List (Nat × Word)) : List Byte :=
  0x06 :: leBytes 2 done.length ++ [ack.setWidth 8] ++ completedBytes d done

theorem reportBytes_length (d : Direction) (ack : BitVec 4) (done : List (Nat × Word)) :
    (reportBytes d ack done).length = 4 + (completedBytes d done).length := by
  simp [reportBytes]
  omega

/-- What TransferBlock answers once it has completed the sub-transfers `done` (44_dap_transfer.md R253, R256). -/
structure BlockReport (d : Direction) (count : Nat) (ack : BitVec 4) (done : List (Nat × Word)) (rest : List Bool)
    (s t : State) : Prop where
  doneCount : t.doneCount = done.length
  samples : t.samples = rest
  response : t.response = reportBytes d ack done
  respLen : t.respLen = 4 + (completedBytes d done).length
  okOut : t.okOut = !(done.length < count : Bool)
  completed : Completed s t

theorem blockResponse_engine (d : Direction) (count : Nat) (ack : BitVec 4) (s : State) :
    (blockResponse d count ack s).samples = s.samples ∧ (blockResponse d count ack s).trace = s.trace ∧
      (blockResponse d count ack s).busy = s.busy := by
  unfold blockResponse
  rw [respWrite_eq 3, respWrite_eq 1]
  exact ⟨rfl, rfl, rfl⟩

theorem Writes.block_keeps {s t : State} (h : Writes .ofBlock s t) :
    t.cfg = s.cfg ∧ t.connected = s.connected ∧ CommandFrame s t := by
  obtain ⟨u, rfl⟩ := h
  exact ⟨rfl, rfl, by constructor <;> rfl⟩

/-- The values of the loop stand after the four bytes that TransferBlock writes at its end. -/
theorem BlockReached.read_blockResponse {d : Direction} {u : State} (h : BlockReached d done rest s u) (n : Nat)
    (ack : BitVec 4) (hecho : Memory.read (blockResponse d n ack u).respBuf 0 = some 0x06) (k : Nat) :
    Memory.read (blockResponse d n ack u).respBuf k = (reportBytes d ack done)[k]? := by
  match k with
  | 0 => exact hecho
  | 1 | 2 => rw [Machine.read_blockResponse, h.doneCount]; rfl
  | 3 => rw [Machine.read_blockResponse]; rfl
  | i + 4 =>
    rw [Machine.read_blockResponse, if_neg (by omega), if_neg (by omega), Nat.add_comm i 4, h.values, Nat.add_comm 4 i]
    rfl

theorem BlockReached.blockResponse_wp {d : Direction} {u : State} (h : BlockReached d done rest s u) (n : Nat)
    (ack : BitVec 4) : (blockResponse d n ack u).wp = (reportBytes d ack done).length := by
  rw [reportBytes_length]
  cases d with
  | read =>
    show 4 + 4 * u.doneCount = _
    rw [completedBytes_length, h.doneCount]
  | write => rfl

theorem blockCommand_report {trn : Nat} {ack : BitVec 4} {u : State} (hcheck : blockCheck rq count data = none)
    (hend : blockEnd trn rq count data s = (ack, u)) (h : BlockReached (rqDirection rq) done rest s u) :
    BlockReport (rqDirection rq) count.toNat ack done rest s (blockCommand trn rq count data s) := by
  have hanswered := blockCommand_answered trn s hcheck
  obtain ⟨hwf, hle⟩ := blockCommand_fits trn s hcheck
  obtain ⟨hcfg, hconnected, hframe⟩ := (blockCommand_writes trn rq count data s).block_keeps
  have heq : blockCommand trn rq count data s = endCommand (blockResponse (rqDirection rq) count.toNat ack u) := by
    rw [blockCommand_eq, hend]
  rw [heq] at hanswered hwf hle hcfg hconnected hframe ⊢
  obtain ⟨-, hdone, -, -⟩ := blockResponse_keeps (rqDirection rq) count.toNat ack u
  obtain ⟨hsamples, -, hbusy⟩ := blockResponse_engine (rqDirection rq) count.toNat ack u
  have hdone := hdone.trans h.doneCount
  have hlen := h.blockResponse_wp count.toNat ack
  have hbytes : (blockResponse (rqDirection rq) count.toNat ack u).respBuf =
      Memory.ofBytes 0 (reportBytes (rqDirection rq) ack done) := by
    refine eq_of_read hwf (wf_ofBytes _ _ ((Nat.zero_add _).trans_le (hlen ▸ hle))) fun k => ?_
    rw [read_ofBytes, if_pos (Nat.zero_le k)]
    exact h.read_blockResponse _ ack hanswered.echo k
  refine ⟨hdone, hsamples.trans h.samples, ?_, hlen.trans (reportBytes_length ..), ?_, hcfg, hconnected,
    hbusy.trans h.busy, hanswered.cause, hframe⟩
  · show Memory.bytes (blockResponse (rqDirection rq) count.toNat ack u).respBuf
      (blockResponse (rqDirection rq) count.toNat ack u).wp = _
    rw [hbytes, hlen, bytes_ofBytes]
  · rw [hanswered.okOut]
    exact congrArg (fun n => !(n < count.toNat : Bool)) hdone

theorem blockCheck_room (hcheck : blockCheck rq count data = none) (hlen : done.length ≤ count.toNat) :
    rqDirection rq = .read → done.length ≤ 15 := fun hd => by
  have := blockCheck_read hcheck hd
  omega

theorem exec_xferBlk_completed (hcheck : blockCheck rq count data = none) (hk : ∀ kv ∈ done, kv.1 < retryBudget s)
    (hlen : done.length = count.toNat) (h : s.samples = completedLevels (rqDirection rq) done ++ rest) :
    ∃ t, exec (.xferBlk rq count data) s = .next t ∧
      BlockReport (rqDirection rq) count.toNat (if done = [] then 0 else resOk) done rest s t := by
  obtain ⟨u, hend, hu⟩ := blockEnd_completed Config.trnCycles hk hlen (blockCheck_room hcheck hlen.le) h
  exact ⟨_, exec_xferBlk_eq hcheck s, blockCommand_report hcheck hend hu⟩

theorem exec_xferBlk_stopped {k : Nat} {ans : TargetAnswer} (hcheck : blockCheck rq count data = none)
    (hk : ∀ kv ∈ done, kv.1 < retryBudget s) (hlen : done.length < count.toNat)
    (hc : Course (rqDirection rq) (retryBudget s) k ans) (hstop : ans.result.ack ≠ resOk)
    (h : s.samples = completedLevels (rqDirection rq) done ++ (waits k ++ (ans.levels ++ rest))) :
    ∃ t, exec (.xferBlk rq count data) s = .next t ∧
      BlockReport (rqDirection rq) count.toNat ans.result.ack done rest s t := by
  obtain ⟨u, hend, hu⟩ := blockEnd_stopped Config.trnCycles hk hlen (blockCheck_room hcheck hlen.le) hc hstop h
  exact ⟨_, exec_xferBlk_eq hcheck s, blockCommand_report hcheck hend hu⟩

end

/-! ### The checks of TransferBlock -/

theorem blockCheck_of_write {rq : Byte} {count : BitVec 16} {data : List Byte} (hrq : rq &&& 0xF0#8 = 0)
    (hd : rqDirection rq = .write) :
    blockCheck rq count data = if data.length < 4 * count.toNat then some .truncated else none := by
  rw [blockCheck, if_neg (by simp [rqReserved_eq_false hrq]), hd]

theorem blockCheck_of_read {rq : Byte} {count : BitVec 16} {data : List Byte} (hrq : rq &&& 0xF0#8 = 0)
    (hd : rqDirection rq = .read) :
    blockCheck rq count data = if 64 < 4 + 4 * count.toNat then some .responseTooLong else none := by
  rw [blockCheck, if_neg (by simp [rqReserved_eq_false hrq]), hd]
  rfl

theorem blockCheck_write_none {rq : Byte} {count : BitVec 16} {data : List Byte} (hrq : rq &&& 0xF0#8 = 0)
    (hd : rqDirection rq = .write) (h : 4 * count.toNat ≤ data.length) : blockCheck rq count data = none := by
  rw [blockCheck_of_write hrq hd, if_neg (Nat.not_lt.2 h)]

theorem blockCheck_read_none {rq : Byte} {count : BitVec 16} {data : List Byte} (hrq : rq &&& 0xF0#8 = 0)
    (hd : rqDirection rq = .read) (h : count.toNat ≤ 15) : blockCheck rq count data = none := by
  rw [blockCheck_of_read hrq hd, if_neg (by omega)]

/-! ### TransferBlock, read -/

/-- A read block that the answer `ans` stops after the values `vs`, with the acknowledgement byte `b`. -/
theorem exec_xferBlk_read_stopped {rq : Byte} {count : BitVec 16} {data : List Byte} {s : State}
    {vs : List (Nat × Word)} {k : Nat} {ans : TargetAnswer} {rest : List Bool} {b : Byte} (hrq : rq &&& 0xF0#8 = 0)
    (hread : rq.getLsbD 1 = true) (hcount : count.toNat ≤ 15) (hlen : vs.length < count.toNat)
    (hvs : ∀ kv ∈ vs, kv.1 < retryBudget s) (hc : Course .read (retryBudget s) k ans) (hstop : ans.result.ack ≠ resOk)
    (hb : ans.result.ack.setWidth 8 = b)
    (h : s.samples = blockReadAnswers vs ++ waits k ++ ans.levels ++ rest) :
    ∃ t, exec (.xferBlk rq count data) s = .next t ∧ t.doneCount = vs.length ∧ t.samples = rest ∧
      t.response = 0x06 :: leBytes 2 vs.length ++ [b] ++ vs.flatMap (fun kv => leBytes 4 kv.2.toNat) ∧
      t.respLen = 4 + 4 * vs.length ∧ t.okOut = false ∧ Completed s t := by
  have hd := rqDirection_read hread
  obtain ⟨t, ht, hreport⟩ := exec_xferBlk_stopped (blockCheck_read_none (data := data) hrq hd hcount) hvs hlen
    (hd ▸ hc) hstop (rest := rest) (by rw [hd, completedLevels_read, h]; simp only [List.append_assoc])
  rw [hd] at hreport
  refine ⟨t, ht, hreport.doneCount, hreport.samples, ?_, ?_, ?_, hreport.completed⟩
  · rw [hreport.response, reportBytes, hb]
    rfl
  · rw [hreport.respLen, completedBytes_length]
  · rw [hreport.okOut, decide_eq_true hlen, Bool.not_true]

/-- Settles O40: the sub-transfer after the completed ones is answered neither OK nor WAIT. -/
theorem blockReadReportsItsProgress : Obligations.BlockReadReportsItsProgress := by
  intro rq count data s vs k a rest hrq hread hcount hlen hvs hk hok hwait h
  exact exec_xferBlk_read_stopped (ans := .other a) hrq hread hcount hlen hvs (course_other _ hk hok hwait)
    (mt setWidth_ack_eq_ok.1 hok) (setWidth_setWidth_ack a) h

/-- Settles O41: the value with the wrong parity bit, and the WAIT at the end of the budget, stop the block. -/
theorem blockReadStopsOnParityErrorOrSpentBudget : Obligations.BlockReadStopsOnParityErrorOrSpentBudget := by
  intro rq count data s vs rest hrq hread hcount hlen hvs
  refine ⟨fun k v hk h => ?_, fun h => ?_⟩
  · have hwrong := TargetAnswer.result_value_of_ne (v := v) (Bool.not_ne_self _)
    exact exec_xferBlk_read_stopped hrq hread hcount hlen hvs (course_value hk v (!parity v))
      (by rw [hwrong]; decide) (by rw [hwrong]; rfl) h
  · have h : s.samples = blockReadAnswers vs ++ waits (retryBudget s) ++ rest := h
    rw [waits_retryBudget, ← List.append_assoc] at h
    exact exec_xferBlk_read_stopped hrq hread hcount hlen hvs (course_spent .read s) (by decide) rfl h

/-- An empty block makes no pin call (44_dap_transfer.md R256). -/
theorem blockCommand_trace_of_empty (trn : Nat) (rq : Byte) {count : BitVec 16} (data : List Byte) (s : State)
    (h : count.toNat = 0) : (blockCommand trn rq count data s).trace = s.trace := by
  have hend : blockEnd trn rq count data s = (0, blockStart rq s) := by rw [blockEnd, h]; rfl
  rw [blockCommand_eq, hend]
  obtain ⟨-, htrace, -⟩ := blockResponse_engine (rqDirection rq) count.toNat 0 (blockStart rq s)
  exact htrace

/-- The acknowledgement byte of a block whose every sub-transfer is completed. -/
theorem setWidth_ite_resOk (p : Prop) [Decidable p] :
    (if p then 0 else resOk).setWidth 8 = if p then (0x00 : Byte) else 0x01 := by
  split <;> rfl

/-- Settles O42: every sub-transfer is completed, and without one the block ends where it starts. -/
theorem blockReadCompletes : Obligations.BlockReadCompletes := by
  intro rq count data s vs rest hrq hread hcount hlen hvs h
  have hd := rqDirection_read hread
  have hcheck := blockCheck_read_none (data := data) hrq hd hcount
  obtain ⟨t, ht, hreport⟩ := exec_xferBlk_completed hcheck hvs hlen (by rw [hd]; exact h)
  rw [hd] at hreport
  refine ⟨t, ht, hreport.doneCount, hreport.samples, ?_, ?_, ?_, fun hvs => ?_, hreport.completed⟩
  · rw [hreport.response, reportBytes, setWidth_ite_resOk]
    rfl
  · rw [hreport.respLen, completedBytes_length]
  · rw [hreport.okOut, decide_eq_false hlen.not_lt, Bool.not_false]
  · cases ht.symm.trans (exec_xferBlk_eq hcheck s)
    exact blockCommand_trace_of_empty _ rq data s (by rw [← hlen, hvs, List.length_nil])

/-! ### TransferBlock, write -/

theorem forall_mem_map_zero {budget : Nat} {ks : List Nat} (h : ∀ k ∈ ks, k < budget) :
    ∀ kv ∈ ks.map (·, (0 : Word)), kv.1 < budget :=
  List.forall_mem_map.2 h

/-- A write block that the answer `ans` stops after as many words as `ks` has, with the acknowledgement byte `b`. -/
theorem exec_xferBlk_write_stopped {rq : Byte} {count : BitVec 16} {data : List Byte} {s : State} {ks : List Nat}
    {k : Nat} {ans : TargetAnswer} {rest : List Bool} {b : Byte} (hrq : rq &&& 0xF0#8 = 0)
    (hwrite : rq.getLsbD 1 = false) (hdata : 4 * count.toNat ≤ data.length) (hlen : ks.length < count.toNat)
    (hks : ∀ k ∈ ks, k < retryBudget s) (hc : Course .write (retryBudget s) k ans) (hstop : ans.result.ack ≠ resOk)
    (hb : ans.result.ack.setWidth 8 = b)
    (h : s.samples = blockWriteAnswers ks ++ waits k ++ ans.levels ++ rest) :
    ∃ t, exec (.xferBlk rq count data) s = .next t ∧ t.doneCount = ks.length ∧ t.samples = rest ∧
      t.response = 0x06 :: leBytes 2 ks.length ++ [b] ∧ t.respLen = 4 ∧ t.okOut = false ∧ Completed s t := by
  have hd := rqDirection_write hwrite
  have hlength : (ks.map (·, (0 : Word))).length = ks.length := List.length_map ..
  obtain ⟨t, ht, hreport⟩ := exec_xferBlk_stopped (blockCheck_write_none hrq hd hdata) (forall_mem_map_zero hks)
    (hlength.trans_lt hlen) (hd ▸ hc) hstop (rest := rest)
    (by rw [hd, completedLevels_write, h]; simp only [List.append_assoc])
  rw [hd] at hreport
  refine ⟨t, ht, hreport.doneCount.trans hlength, hreport.samples, ?_, hreport.respLen, ?_, hreport.completed⟩
  · rw [hreport.response, reportBytes, hb, hlength]
    rfl
  · rw [hreport.okOut, hlength, decide_eq_true hlen, Bool.not_true]

/-- Settles O43: all sub-transfers are completed, or the one after the completed ones stops the block. -/
theorem blockWriteReportsItsProgress : Obligations.BlockWriteReportsItsProgress := by
  intro rq count data s ks rest hrq hwrite hdata hcount hks
  refine ⟨fun hlen h => ?_, fun k a hlen hk hok hwait h => ?_, fun hlen h => ?_⟩
  · have hd := rqDirection_write hwrite
    have hlength : (ks.map (·, (0 : Word))).length = ks.length := List.length_map ..
    obtain ⟨t, ht, hreport⟩ := exec_xferBlk_completed (blockCheck_write_none hrq hd hdata) (forall_mem_map_zero hks)
      (hlength.trans hlen) (by rw [hd, completedLevels_write]; exact h)
    rw [hd] at hreport
    refine ⟨t, ht, hreport.doneCount.trans hlength, hreport.samples, ?_, hreport.respLen, ?_, hreport.completed⟩
    · rw [hreport.response, reportBytes, setWidth_ite_resOk, hlength]
      simp only [List.map_eq_nil_iff]
      rfl
    · rw [hreport.okOut, hlength, decide_eq_false hlen.not_lt, Bool.not_false]
  · exact exec_xferBlk_write_stopped (ans := .other a) hrq hwrite hdata hlen hks (course_other _ hk hok hwait)
      (mt setWidth_ack_eq_ok.1 hok) (setWidth_setWidth_ack a) h
  · have h : s.samples = blockWriteAnswers ks ++ waits (retryBudget s) ++ rest := h
    rw [waits_retryBudget, ← List.append_assoc] at h
    exact exec_xferBlk_write_stopped hrq hwrite hdata hlen hks (course_spent .write s) (by decide) rfl h

/-- The words of a block that is never answered WAIT, from the next one on (44_dap_transfer.md R250, R252). -/
theorem blockLoop_write_trace (trn : Nat) {req : TransferRequest} (data : List Byte) {more : Nat} {rest : List Bool}
    (ack : BitVec 4) {s : State} (hd : req.direction = .write)
    (h : s.samples = blockWriteAnswers (List.replicate more 0) ++ rest) :
    (blockLoop trn req data more ack s).2.trace =
      afterWire ((List.range' s.doneCount more).flatMap fun i =>
        writeWire trn s.cfg.idleCycles.toNat { req with value := blockWord data i }) s.trace := by
  induction more generalizing ack s with
  | zero => rfl
  | succ more ih =>
    have hnext : s.samples = waits 0 ++
        (TargetAnswer.written.levels ++ (blockWriteAnswers (List.replicate more 0) ++ rest)) := h
    have hrun := subTransfer_transferred trn data (hd ▸ course_written (retryBudget_pos s)) hnext
    obtain ⟨-, hdone, -, -⟩ := subTransfer_keeps trn req data s
    obtain ⟨hcfg, -⟩ := subTransfer_cfg_busy trn req data s
    have hack : (subTransfer trn req data s).res.ack = resOk := congrArg TransferResult.ack hrun.res
    have hstore : storeBlockWord req.direction (subTransfer trn req data s) =
        { subTransfer trn req data s with doneCount := s.doneCount + 1 } := by rw [hd, ← hdone]; rfl
    rw [blockLoop_succ, if_pos hack, hstore, ih _ (by exact hrun.samples), List.range'_succ, List.flatMap_cons,
      afterWire_append]
    dsimp only
    rw [hcfg, hrun.trace, loadBlockWord_req_of_write data s hd]
    rfl

/-- Settles O44: the words from the first one on, each driven in one attempt. -/
theorem blockWriteDrivesItsWordsInOrder : Obligations.BlockWriteDrivesItsWordsInOrder := by
  intro rq count data s rest hrq hwrite hdata hcount h
  have hd := rqDirection_write hwrite
  refine ⟨_, exec_xferBlk_eq (blockCheck_write_none hrq hd hdata) s, ?_⟩
  have hwords := blockLoop_write_trace 0 (req := requestOf rq s.req.value) data 0 (s := blockStart rq s) hd h
  obtain ⟨-, htrace, -⟩ := blockResponse_engine (rqDirection rq) count.toNat
    (blockEnd 0 rq count data s).1 (blockEnd 0 rq count data s).2
  rw [List.range_eq_range']
  exact htrace.trans hwords

/-! ### A block that does not fit -/

/-- The data of a TransferBlock packet: what its format defines, as far as the packet holds it (30_encoding.md R93). -/
theorem decodePacket_xferBlk {bytes : List Byte} {rq : Byte} {count : BitVec 16} {data : List Byte}
    (h : decodePacket bytes.length bytes = .ok (.xferBlk rq count data)) :
    4 ≤ bytes.length ∧ bytes.length ≤ 64 ∧ data = (bytes.drop 4).take (blockByteCount rq count) := by
  obtain ⟨-, -, hprefix⟩ := decodedPacketBeginsWithItsEncoding bytes _ h
  have hfour : 4 ≤ bytes.length := by
    have hle := hprefix.length_le
    simp only [encode, List.length_append, List.length_cons, leBytes_length] at hle
    omega
  obtain ⟨op, fields, rfl, hlen, ⟨-, hunknown⟩ | ⟨o, rfl, hassemble⟩⟩ := decodePacket_eq_ok h
  · cases hunknown
  · refine ⟨hfour, Nat.succ_le_succ hlen, ?_⟩
    cases o with
    | xferBlk =>
      rw [assemble] at hassemble
      split at hassemble <;> cases hassemble
      rfl
    | hostStatus | xferCfg | xfer =>
      rw [assemble] at hassemble
      split at hassemble <;> cases hassemble
    | info | connect | swjSeq =>
      obtain ⟨_, -, hi⟩ := Option.map_eq_some_iff.1 hassemble
      cases hi
    | _ => cases hassemble

/-- The data of a write block: its words, as far as the packet holds them. -/
theorem length_data_of_write {bytes : List Byte} {rq : Byte} {count : BitVec 16} {data : List Byte}
    (h : decodePacket bytes.length bytes = .ok (.xferBlk rq count data)) (hd : rqDirection rq = .write) :
    data.length = min (4 * count.toNat) (bytes.length - 4) := by
  obtain ⟨-, -, rfl⟩ := decodePacket_xferBlk h
  rw [List.length_take, List.length_drop, blockByteCount, hd]

/-- Settles O45: the check that fails first, by the direction and the count. -/
theorem blockThatDoesNotFitIsRejectedWhole : Obligations.BlockThatDoesNotFitIsRejectedWhole := by
  intro bytes rq count data s h hrq
  obtain ⟨hmin, hmax, -⟩ := decodePacket_xferBlk h
  have hwrite (hbit : rq.getLsbD 1 = false) (hshort : bytes.length < 4 + 4 * count.toNat) :
      exec (.xferBlk rq count data) s = .next (afterRejection .truncated s) := by
    have hd := rqDirection_write hbit
    have hlen := length_data_of_write h hd
    refine exec_xferBlk_rejected ?_ s
    rw [blockCheck_of_write hrq hd, if_pos (by omega)]
  have hread (hbit : rq.getLsbD 1 = true) (hlong : 64 < 4 + 4 * count.toNat) :
      exec (.xferBlk rq count data) s = .next (afterRejection .responseTooLong s) := by
    refine exec_xferBlk_rejected ?_ s
    rw [blockCheck_of_read hrq (rqDirection_read hbit), if_pos hlong]
  refine ⟨hwrite, hread, fun hcount => ?_, fun hcount hfits => ?_⟩
  · cases hbit : rq.getLsbD 1 with
    | false => exact ⟨_, hwrite hbit (by omega)⟩
    | true => exact ⟨_, hread hbit (by omega)⟩
  · have hcheck : blockCheck rq count data = none := by
      cases hbit : rq.getLsbD 1 with
      | false =>
        have hd := rqDirection_write hbit
        have hlen := length_data_of_write h hd
        have hfits := hfits hbit
        exact blockCheck_write_none hrq hd (by omega)
      | true => exact blockCheck_read_none hrq (rqDirection_read hbit) hcount
    exact ⟨_, exec_xferBlk_eq hcheck s, (blockCommand_answered _ s hcheck).cause⟩

/-! ### SWJ_Sequence -/

theorem toNat_swjBitCount (n : Byte) : (BitVec.ofNat 32 (swjBitCount n)).toNat = swjBitCount n := by
  have hn := n.isLt
  refine Nat.mod_eq_of_lt ?_
  unfold swjBitCount
  split <;> omega

theorem swjBitCount_ne_zero (n : Byte) : BitVec.ofNat 32 (swjBitCount n) ≠ 0 := by
  refine fun h => absurd (congrArg BitVec.toNat h) ?_
  rw [toNat_swjBitCount, swjBitCount]
  split
  · decide
  · next hn => exact (BitVec.toNat_pos_of_ne_zero hn).ne'

/-- Settles O46: the whole next state of the raw sequence, whose bit count is never 0. -/
theorem swjSequenceDrivesItsBitsAndAnswers : Obligations.SwjSequenceDrivesItsBitsAndAnswers := by
  intro n data s N
  have hN : N = swjBitCount n := rfl
  refine ⟨fun hfits => ?_, fun hshort => if_pos hshort⟩
  refine ⟨_, exec_swjSeq_eq (Nat.not_lt.2 hfits) s, ?_⟩
  rw [sequenceCommand_eq, afterSequence, if_neg (swjBitCount_ne_zero n), if_neg (swjBitCount_ne_zero n),
    toNat_swjBitCount, ← hN]
  exact ⟨rfl, rfl, rfl, rfl, rfl, rfl, rfl, rfl, rfl, rfl, rfl, rfl, rfl, by constructor <;> rfl⟩

end Sys2Proof.Machine
end

section
/-! PROOF. The class B commands (45_dap_unimplemented.md): decoded whatever follows their opcode, and answered with the
sentinel alone. -/

namespace Sys2Proof

/-- A command without operands is decoded whatever follows its opcode (42_dap_dispatch.md R192). -/
theorem decodePacket_of_no_operands {op : Byte} {o : Opcode} {i : Instr} {fields : List Byte}
    (hop : opcodeOf op = some o) (hmin : minLength o = 1) (hassemble : ∀ bytes, assemble o bytes = some i)
    (hlen : fields.length ≤ 63) :
    decodePacket (fields.length + 1) (op :: fields) = .ok i :=
  Laws.decodePacket_of_assemble op fields o i hlen hop (by omega) (hassemble _)

end Sys2Proof

namespace Sys2Proof.Machine

/-- A class B command (45_dap_unimplemented.md R280): its opcode is in the map, it has no operands, and its execution
raises `ErrorResponse(NOT_IMPLEMENTED)`. -/
structure IsClassB (op : Byte) (o : Opcode) (i : Instr) : Prop where
  opcodeOf_eq : opcodeOf op = some o
  minLength_eq : minLength o = 1
  assemble_eq : ∀ bytes, assemble o bytes = some i
  exec_eq : ∀ s, exec i s = .next (notImplemented s)

theorem IsClassB.answeredNotImplemented {op : Byte} {o : Opcode} {i : Instr} (h : IsClassB op o i) :
    (∀ fields : List Byte, fields.length ≤ 63 → decodePacket (fields.length + 1) (op :: fields) = .ok i) ∧
      ∀ s : State, exec i s = .next (afterRejection .notImplemented s) :=
  ⟨fun _ => decodePacket_of_no_operands h.opcodeOf_eq h.minLength_eq h.assemble_eq, h.exec_eq⟩

/-- Settles O19: each row of the table is a class B command (45_dap_unimplemented.md R281 to R290). -/
theorem classBCommandsAreAnsweredNotImplemented : Obligations.ClassBCommandsAreAnsweredNotImplemented := by
  intro op i hmem
  simp only [List.mem_cons, Prod.mk.injEq, List.not_mem_nil, or_false] at hmem
  suffices h : ∃ o, IsClassB op o i from h.elim fun _ => IsClassB.answeredNotImplemented
  obtain ⟨rfl, rfl⟩ | ⟨rfl, rfl⟩ | ⟨rfl, rfl⟩ | ⟨rfl, rfl⟩ | ⟨rfl, rfl⟩ | ⟨rfl, rfl⟩ | ⟨rfl, rfl⟩ | ⟨rfl, rfl⟩ |
    ⟨rfl, rfl⟩ := hmem
  · exact ⟨.writeAbort, rfl, rfl, fun _ => rfl, fun _ => rfl⟩
  · exact ⟨.delay, rfl, rfl, fun _ => rfl, fun _ => rfl⟩
  · exact ⟨.resetTarget, rfl, rfl, fun _ => rfl, fun _ => rfl⟩
  · exact ⟨.swjPins, rfl, rfl, fun _ => rfl, fun _ => rfl⟩
  · exact ⟨.swjClock, rfl, rfl, fun _ => rfl, fun _ => rfl⟩
  · exact ⟨.swdCfg, rfl, rfl, fun _ => rfl, fun _ => rfl⟩
  · exact ⟨.jtagSeq, rfl, rfl, fun _ => rfl, fun _ => rfl⟩
  · exact ⟨.jtagCfg, rfl, rfl, fun _ => rfl, fun _ => rfl⟩
  · exact ⟨.jtagIdcode, rfl, rfl, fun _ => rfl, fun _ => rfl⟩

end Sys2Proof.Machine
end

section
/-! PROOF. The exceptions family (60_exceptions.md): what a rejection leaves unchanged, what the engine's own entries
run, and that no reachable step faults. -/

namespace Sys2Proof.Machine

/-! ### A rejection -/

/-- A command with a cause label took an `ErrorResponse`: an answer has none (60_exceptions.md R310). -/
theorem exec_packet_rejected {i : Instr} {s t : State} (hi : i.wordPort = .packet) (ht : exec i s = .next t)
    (hcause : t.cause ≠ none) : ∃ c, t = afterRejection c s := by
  obtain ⟨t', ht', hanswer⟩ := exec_packet_answer hi s
  cases ht.symm.trans ht'
  exact hanswer.resolve_right fun h => hcause h.cause

theorem afterRejection_commandFrame (c : ErrorCause) (s : State) : CommandFrame s (afterRejection c s) := by
  constructor <;> rfl

theorem afterRejection_pinFrame (c : ErrorCause) (s : State) : PinFrame s (afterRejection c s) := by
  constructor <;> rfl

/-- Settles O50: the state of a rejected command is `afterRejection`, which writes the response, `OK_OUT`, `BUSY` and
the label alone. -/
theorem rejectedCommandChangesNothing : Obligations.RejectedCommandChangesNothing := by
  intro i s t hi ht hcause
  obtain ⟨c, rfl⟩ := exec_packet_rejected hi ht hcause
  exact ⟨⟨c, rfl⟩, rfl, rfl, rfl, rfl, rfl, rfl, rfl, afterRejection_commandFrame c s, afterRejection_pinFrame c s⟩

/-! ### The engine's own entries -/

theorem step_of_header {s : State} {w : Byte} {v : Word} {rest : List Input} {i : Instr} (hidle : s.fsm = .idle)
    (hbusy : s.busy = false) (hin : s.inputs = .header w v :: rest) (hi : decodeHeader w = .ok i) :
    step s = exec i (setRequestValue v { s with inputs := rest }) := by
  simp only [step_eq_takeInput hidle hbusy, takeInput, hin, hi]

theorem step_of_request {s : State} {r : TransferRequest} {rest : List Input} (hidle : s.fsm = .idle)
    (hbusy : s.busy = false) (hin : s.inputs = .request r :: rest) :
    step s = exec (.swdHdr r.port r.direction r.registerIndex) (setRequestValue r.value { s with inputs := rest }) := by
  rw [step_eq_takeInput hidle hbusy, takeInput, hin]

theorem step_of_clockedTransfer {s : State} {r : TransferRequest} {rest : List Input} (hidle : s.fsm = .idle)
    (hbusy : s.busy = false) (hin : s.inputs = .clockedTransfer r :: rest) :
    step s = .next (startTransfer r { s with inputs := rest }) := by
  rw [step_eq_takeInput hidle hbusy, takeInput, hin]

theorem step_of_clockedSequence {s : State} {n : BitVec 32} {bits : List Byte} {rest : List Input}
    (hidle : s.fsm = .idle) (hbusy : s.busy = false) (hin : s.inputs = .clockedSequence n bits :: rest)
    (hfits : sequenceFits n bits = true) : step s = .next (startSequence n bits { s with inputs := rest }) := by
  simp only [step_eq_takeInput hidle hbusy, takeInput, hin, hfits, if_true]

theorem step_of_no_input {s : State} (hidle : s.fsm = .idle) (hbusy : s.busy = false) (hin : s.inputs = []) :
    step s = .next s := by
  rw [step_eq_takeInput hidle hbusy, takeInput, hin]

theorem step_of_atAck {s : State} (hack : s.atAck = true) : step s = exec (decodeAck s.ack) s := by
  have hphase : s.fsm ≠ .idle := fun hidle => by simp [State.atAck, hidle] at hack
  rw [step, if_neg hphase, if_pos hack]

/-- Settles O11: an idle block runs its first input, and a complete acknowledgement is the instruction to run. -/
theorem stepRunsTheHeaderOrAcknowledgement : Obligations.StepRunsTheHeaderOrAcknowledgement :=
  ⟨fun _ _ _ _ _ => step_of_header, fun _ _ _ => step_of_request, fun _ => step_of_no_input,
    fun _ hphase hcnt => step_of_atAck (by simp [State.atAck, hphase, hcnt])⟩

/-! ### No reachable step faults -/

/-- The precondition an input has at the entry it stands at (30_encoding.md R74, 41_swd_transfer.md R146). -/
def Input.Admissible : Input → Prop
  | .header w _ => ∃ p d k, w = headerWord p d k
  | .clockedSequence n bits => (n.toNat + 7) / 8 ≤ bits.length
  | .packet _ | .request _ | .clockedTransfer _ => True

/-- An idle block answers an input that meets its precondition, and waits without one. -/
theorem step_answers_of_idle {s : State} (hidle : s.fsm = .idle) (hbusy : s.busy = false)
    (hhead : ∀ x, s.inputs.head? = some x → x.Admissible) : ∃ t, step s = .next t := by
  cases hin : s.inputs with
  | nil => exact ⟨s, step_of_no_input hidle hbusy hin⟩
  | cons x rest =>
    have hx : x.Admissible := hhead x (by rw [hin, List.head?_cons])
    cases x with
    | packet bytes =>
      obtain ⟨t, ht, -⟩ := Ready.answer ⟨hidle, hbusy, hin⟩
      exact ⟨_, ht⟩
    | header w v =>
      obtain ⟨p, d, k, rfl⟩ := hx
      obtain ⟨req, hexec⟩ := exec_header_eq (headerInstr_wordPort p d k) (setRequestValue v { s with inputs := rest })
      exact ⟨_, (step_of_header hidle hbusy hin (decodeHeader_headerWord p d k)).trans hexec⟩
    | request r => exact ⟨_, step_of_request hidle hbusy hin⟩
    | clockedTransfer r => exact ⟨_, step_of_clockedTransfer hidle hbusy hin⟩
    | clockedSequence n bits => exact ⟨_, step_of_clockedSequence hidle hbusy hin (decide_eq_true hx)⟩

/-- An input that breaks its precondition is refused (93_implementation_defined.md U13). -/
theorem step_refuses_of_idle {s : State} {x : Input} (hidle : s.fsm = .idle) (hbusy : s.busy = false)
    (hhead : s.inputs.head? = some x) (hx : ¬x.Admissible) : ∃ r, step s = .refused r := by
  obtain ⟨rest, hin⟩ := List.head?_eq_some_iff.1 hhead
  obtain ⟨hsequence, hheader, -⟩ := engineEntryRefusesBrokenPreconditions
  cases x with
  | header w v => exact ⟨_, hheader s w v rest hidle hbusy hin fun p d k hw => hx ⟨p, d, k, hw⟩⟩
  | clockedSequence n bits => exact ⟨_, hsequence s n bits rest hidle hbusy hin (Nat.lt_of_not_le hx)⟩
  | packet | request | clockedTransfer => exact absurd trivial hx

/-- A phase with cycles left makes one: the bit of a sequence that is due is there (41_swd_transfer.md R146). -/
theorem clockStep_eq_clock {trn : Nat} {s : State} (hcycles : s.cnt < phaseLength trn s)
    (hbits : s.fsm = .seq → sequenceFits s.seqCount s.seqBits = true) : clockStep trn s = .next (clock trn s) := by
  have hbit : ¬(s.fsm = .seq ∧ s.seqBits.length ≤ s.cnt / 8) := by
    rintro ⟨hseq, hmissing⟩
    have hfits : (s.seqCount.toNat + 7) / 8 ≤ s.seqBits.length := of_decide_eq_true (hbits hseq)
    have hcnt : s.cnt < s.seqCount.toNat := by simpa only [phaseLength, hseq] using hcycles
    omega
  rw [clockStep, if_pos hcycles, if_neg hbit]

/-- In a phase the invariant leaves the engine a cycle to make or an acknowledgement to run. -/
theorem PhaseInv.step_answers {s : State} (h : PhaseInv s) (hphase : s.fsm ≠ .idle) : ∃ t, step s = .next t := by
  obtain ⟨hready, hbits⟩ := h.resolve_left hphase
  by_cases hack : s.atAck = true
  · exact ⟨_, (step_of_atAck hack).trans (exec_decodeAck s)⟩
  · refine ⟨clock Config.trnCycles s, ?_⟩
    rw [step, if_neg hphase, if_neg hack, clockStep_eq_clock (hready.resolve_right hack) hbits]

theorem Inv.step_answers {s : State} (h : Inv s) (hhead : ∀ x, s.inputs.head? = some x → x.Admissible) :
    ∃ t, step s = .next t := by
  obtain ⟨-, -, -, hbusy⟩ := h.buffer
  by_cases hidle : s.fsm = .idle
  · exact step_answers_of_idle hidle hbusy hhead
  · exact h.phase.step_answers hidle

/-- The case split that rules out a fault: a phase is answered, and an idle block answers or refuses by the
precondition of its first input. -/
theorem Inv.step_answers_or_refuses {s : State} (h : Inv s) : (∃ t, step s = .next t) ∨ ∃ r, step s = .refused r := by
  obtain ⟨-, -, -, hbusy⟩ := h.buffer
  by_cases hidle : s.fsm = .idle
  · by_cases hhead : ∀ x, s.inputs.head? = some x → x.Admissible
    · exact .inl (h.step_answers hhead)
    · push Not at hhead
      obtain ⟨x, hx, hbroken⟩ := hhead
      exact .inr (step_refuses_of_idle hidle hbusy hx hbroken)
  · exact .inl (h.phase.step_answers hidle)

/-- Settles O59: a step answers or refuses, and answers when the first input meets its precondition. -/
theorem noReachableStepFaults : Obligations.NoReachableStepFaults := by
  refine fun s hs => ⟨fun f hf => ?_, fun hheader hsequence => hs.step_answers fun x hx => ?_⟩
  · obtain ⟨t, ht⟩ | ⟨r, hr⟩ := hs.step_answers_or_refuses
    · cases hf.symm.trans ht
    · cases hf.symm.trans hr
  · cases x with
    | header w v => exact hheader w v hx
    | clockedSequence n bits => exact hsequence n bits hx
    | packet | request | clockedTransfer => trivial

end Sys2Proof.Machine
end

section
/-! PROOF. The reset family (70_reset_and_hazards.md): the first pin event after reset takes the data line. -/

namespace Sys2Proof.Machine

/-! ### The first pin call of an operation -/

/-- From `s` to `t` pin calls are made, and the first of them is `set_data_direction(output)` (41_swd_transfer.md R133,
R145). -/
def TakesLine (s t : State) : Prop := ∃ ws, t.trace = afterWire (.out :: ws) s.trace

/-- From `s` to `t` no pin call is made and the engine stays in its phase. -/
def NoPinCall (s t : State) : Prop := t.trace = s.trace ∧ t.fsm = s.fsm

theorem setDirection_output_takesLine (s : State) : TakesLine s (setDirection .output s) := ⟨[], rfl⟩

/-- Whatever is called on the pins after it, the first call stays the first. -/
theorem TakesLine.wired {P Q : State → Prop} {s t u : State} (h : TakesLine s t) (h' : Wired P Q t u) :
    TakesLine s u := by
  obtain ⟨ws, ht⟩ := h
  obtain ⟨new, hu⟩ := h'.wire
  exact ⟨ws ++ new, by rw [hu, ht, ← List.cons_append, afterWire_append]⟩

/-- An operation that takes the line, after an update without a pin call. -/
theorem TakesLine.of_trace_eq {s t u : State} (h : TakesLine t u) (htrace : t.trace = s.trace) : TakesLine s u := by
  rwa [TakesLine, ← htrace]

theorem Writes.noPinCall {s t : State} (h : Writes .ofReply s t) : NoPinCall s t := by
  obtain ⟨u, rfl⟩ := h
  exact ⟨rfl, rfl⟩

theorem ControlWrites.noPinCall {i : Instr} {s t : State} (h : ControlWrites i s t) : NoPinCall s t := by
  obtain ⟨cfg, connected, hreply, -, -⟩ := h
  exact hreply.noPinCall

/-! ### The engine's operations take the line -/

theorem headerPhase_takesLine (s : State) : TakesLine s (headerPhase s) :=
  (setDirection_output_takesLine s).wired (.forCnt driveHeaderBit (fun _ s => writeBit_wired _ s) 8 _)

theorem executeTransfer_takesLine (trn : Nat) (req : TransferRequest) (s : State) :
    TakesLine s (executeTransfer trn req s) :=
  (((headerPhase_takesLine (latchRequest req s)).wired (ackPhase_wired trn _)).wired (afterAck_wired trn _)).of_trace_eq
    rfl

theorem generateSequence_takesLine (n : BitVec 32) (bits : List Byte) (s : State) :
    TakesLine s (generateSequence n bits s) :=
  (((setDirection_output_takesLine (latchSequence n bits s)).wired
    (.forCnt driveSequenceBit (fun _ s => writeBit_wired _ s) _ _)).wired (finishSequence_wired _)).of_trace_eq rfl

theorem startTransfer_takesLine (req : TransferRequest) (s : State) : TakesLine s (startTransfer req s) :=
  setDirection_output_takesLine (enterPhase .hdr (latchRequest req s))

theorem startSequence_takesLine (n : BitVec 32) (bits : List Byte) (s : State) :
    TakesLine s (startSequence n bits s) := by
  obtain h | ⟨-, h⟩ := startSequence_cases n bits s <;> rw [h]
  · exact (setDirection_output_takesLine (latchSequence n bits s)).wired (finishSequence_wired _)
  · exact setDirection_output_takesLine (enterPhase .seq (latchSequence n bits s))

/-! ### The commands take the line, if they make a pin call -/

theorem attempt_takesLine (trn : Nat) (req : TransferRequest) (s : State) : TakesLine s (attempt trn req s) :=
  executeTransfer_takesLine trn req s

/-- The first attempt is always made (44_dap_transfer.md R244), and takes the line. -/
theorem retryLoop_takesLine (trn : Nat) (req : TransferRequest) (more : Nat) (s : State) :
    TakesLine s (retryLoop trn req more s) := by
  cases more with
  | zero => exact attempt_takesLine trn req s
  | succ more =>
    rw [retryLoop_succ]
    split
    · exact (attempt_takesLine trn req s).wired (retryLoop_wired trn req more _)
    · exact attempt_takesLine trn req s

theorem transferWithRetry_takesLine (trn : Nat) (req : TransferRequest) (s : State) :
    TakesLine s (transferWithRetry trn req s) :=
  (retryLoop_takesLine trn req _ { s with retryCount := 0 }).of_trace_eq rfl

theorem transferCommand_takesLine (trn : Nat) (rq : Byte) (operand : Word) (s : State) :
    TakesLine s (transferCommand trn rq operand s) :=
  ((transferWithRetry_takesLine trn (requestOf rq operand) { beginCommand 0x05 s with rp := 6 }).wired
    ((transferResponse_writes _ _).trans (endCommand_writes _)).wired_of_reply).of_trace_eq rfl

theorem subTransfer_takesLine (trn : Nat) (req : TransferRequest) (data : List Byte) (s : State) :
    TakesLine s (transferWithRetry trn (loadBlockWord req data s).req (loadBlockWord req data s)) :=
  (transferWithRetry_takesLine trn _ _).of_trace_eq (by unfold loadBlockWord; split <;> rfl)

/-- A block without a sub-transfer makes no pin call; in any other the first sub-transfer takes the line
(44_dap_transfer.md R256). -/
theorem blockLoop_noPinCall_or_takesLine (trn : Nat) (req : TransferRequest) (data : List Byte) (more : Nat)
    (ack : BitVec 4) (s : State) :
    NoPinCall s (blockLoop trn req data more ack s).2 ∨ TakesLine s (blockLoop trn req data more ack s).2 := by
  cases more with
  | zero => exact .inl ⟨rfl, rfl⟩
  | succ more =>
    have hfirst := subTransfer_takesLine trn req data s
    rw [blockLoop]
    split
    · exact .inr ((hfirst.wired (storeBlockWord_wired _ _)).wired (blockLoop_wired trn req data more _ _))
    · exact .inr hfirst

theorem blockCommand_noPinCall_or_takesLine (trn : Nat) (rq : Byte) (count : BitVec 16) (data : List Byte) (s : State) :
    NoPinCall s (blockCommand trn rq count data s) ∨ TakesLine s (blockCommand trn rq count data s) := by
  have hend (ack : BitVec 4) (u : State) :=
    (blockResponse_writes (rqDirection rq) count.toNat ack u).trans (endCommand_writes _)
  obtain h | h := blockLoop_noPinCall_or_takesLine trn (requestOf rq s.req.value) data count.toNat 0
    { beginCommand 0x06 s with rp := 4, doneCount := 0, req := requestOf rq s.req.value }
  · obtain ⟨htrace, hfsm⟩ := h
    obtain ⟨htrace', hfsm'⟩ := (hend _ _).noPinCall
    exact .inl ⟨htrace'.trans htrace, hfsm'.trans hfsm⟩
  · exact .inr ((h.wired (hend _ _).wired_of_reply).of_trace_eq rfl)

theorem sequenceCommand_takesLine (n : Byte) (data : List Byte) (s : State) :
    TakesLine s (sequenceCommand n data s) := by
  have hend (u : State) : Writes .ofReply u (endCommand { u.respWrite 1 1 0x00 with wp := 2 }) :=
    ((respWrite_writes 1 1 0x00 u).trans (setAnswer_writes 2 _ _)).trans (endCommand_writes _)
  exact ((generateSequence_takesLine _ data { beginCommand 0x12 s with rp := 2 + swjByteCount n }).wired
    (hend _).wired_of_reply).of_trace_eq rfl

/-- The three commands with pin calls begin them by taking the line, whatever the target answers. -/
theorem exec_packet_noPinCall_or_takesLine {i : Instr} {s t : State} (hi : i.wordPort = .packet)
    (h : exec i s = .next t) : NoPinCall s t ∨ TakesLine s t := by
  have hreject (c : ErrorCause) : NoPinCall s (errorResponse c s) := (errorResponse_writes c s).noPinCall
  obtain ⟨-, -, hcontrol⟩ | ⟨-, hw, -⟩ | ⟨rq, operand, rfl, -⟩ | ⟨rq, count, data, rfl, -⟩ | ⟨n, data, rfl, -⟩ :=
    exec_kinds h
  · exact .inl hcontrol.noPinCall
  · exact absurd hi hw
  · obtain rfl | rfl := exec_xfer_cases h
    · exact .inl (hreject _)
    · exact .inr (transferCommand_takesLine _ rq operand s)
  · obtain ⟨c, rfl⟩ | ⟨-, rfl⟩ := exec_xferBlk_cases h
    · exact .inl (hreject c)
    · exact blockCommand_noPinCall_or_takesLine _ rq count data s
  · obtain rfl | rfl := exec_swjSeq_cases h
    · exact .inl (hreject _)
    · exact .inr (sequenceCommand_takesLine n data s)

/-! ### The first pin event -/

/-- A step of an idle block makes no pin call and leaves it idle, or takes the line first. -/
theorem step_noPinCall_or_takesLine {s t : State} (h : step s = .next t) (hidle : s.fsm = .idle) :
    NoPinCall s t ∨ TakesLine s t := by
  cases step_cases h with
  | wait => exact .inl ⟨rfl, rfl⟩
  | rejected _ bytes rest c => exact .inl ⟨rfl, rfl⟩
  | command _ bytes rest i u hi hu =>
    obtain ⟨htrace, hfsm⟩ | ⟨ws, htrace⟩ := exec_packet_noPinCall_or_takesLine hi hu
    · exact .inl ⟨htrace, hfsm⟩
    · exact .inr ⟨ws, htrace⟩
  | attempt _ req value rest => exact .inr ((executeTransfer_takesLine _ req _).of_trace_eq rfl)
  | startTransfer _ req rest => exact .inr ((startTransfer_takesLine req _).of_trace_eq rfl)
  | startSequence _ n bits rest hfits => exact .inr ((startSequence_takesLine n bits _).of_trace_eq rfl)
  | acknowledged hack => simp [State.atAck, hidle] at hack
  | clocked hphase hcycles => exact absurd hidle hphase

/-- On a block without a pin event the line is taken by the oldest event of the history. -/
theorem TakesLine.getLast? {s t : State} (h : TakesLine s t) (hs : s.trace = []) :
    t.trace.getLast? = some (.setDirection .output) := by
  obtain ⟨ws, ht⟩ := h
  rw [ht, hs, afterWire_cons, List.append_nil, afterWire]
  exact List.getLast?_concat

/-- Settles O55: a history with an event keeps its oldest one, and the first event is made by a step of an idle block,
which takes the line before any other pin call. -/
theorem firstPinEventTakesTheLine : Obligations.FirstPinEventTakesTheLine := by
  refine ⟨fun s t h hidle hfirst => ?_, fun _ _ _ => ⟨rfl, rfl⟩⟩
  by_cases hs : s.trace = []
  · obtain ⟨htrace, hfsm⟩ | htakes := step_noPinCall_or_takesLine h (hidle hs)
    · exact ⟨fun _ => hfsm.trans (hidle hs), fun ht => absurd (htrace.trans hs) ht⟩
    · have hlast := htakes.getLast? hs
      exact ⟨fun ht => by simp [ht] at hlast, fun _ => hlast⟩
  · obtain ⟨-, new, htrace, -⟩ := everyStepOnlyAddsPinEvents s t h
    rw [htrace]
    exact ⟨fun ht => absurd (List.append_eq_nil_iff.1 ht).2 hs, fun _ => by
      rw [List.getLast?_append_of_ne_nil new hs, hfirst hs]⟩

end Sys2Proof.Machine
end
